-- ==== Sys2Proof/Word.lean ====
section
/-! DEFINITION. The byte type, the counter maxima of the manual's Conventions and the plain arithmetic over them. -/

namespace Sys2Proof

/-- One byte of a frame or of the record store. -/
abbrev Byte := BitVec 8

/-- Largest value of an 8-bit counter (00_scope.md, Conventions). -/
abbrev max8 : Nat := 255

/-- Largest value of a 16-bit counter. -/
abbrev max16 : Nat := 65535

/-- Largest value of a 24-bit field or bin. -/
abbrev max24 : Nat := 16777215

/-- Largest value of a 32-bit counter. -/
abbrev max32 : Nat := 4294967295

/-- Addition of a counter that saturates at `top`. -/
def satAdd (top a b : Nat) : Nat := min top (a + b)

/-- A number held between two bounds, both included. -/
def clampInt (lo hi x : Int) : Int := max lo (min hi x)

/-- The vector whose entry `i` is `f i` of the old entry. -/
def vecMap {α β : Type} {n : Nat} (f : Fin n → α → β) (v : Vector α n) : Vector β n :=
  Vector.ofFn fun i => f i v[i]

end Sys2Proof
end

