-- ==== Sys2Proof/Syntax.lean ====
section
/-! DEFINITION. The commands: one constructor of `Instr` for each row of spec/opcode_table.json, with the
operands the rules make the event carry. -/

namespace Sys2Proof

/-- A whole CAN frame as the receive queue holds it (01, section 1.1): identifier, format (`ext` for
29-bit) and the data bytes, whose number is the data length. -/
structure Frame where
  ext   : Bool
  ident : Nat
  data  : List Byte
  deriving DecidableEq, Repr

/-- The two pulse units (Chapter 2). -/
inductive PulseId where
  | a
  | b
  deriving DecidableEq, Repr

/-- The link states of R182. -/
inductive LinkState where
  | active
  | passive
  | off
  deriving DecidableEq, Repr

/-- Bytes that differ, each with its offset in the region an operation acts on: at a completion from what was to be
written, at a cut from what the region held (R141, R149, R152; assumption log 7). -/
abbrev Deviation := List (Nat × Byte)

/-- The commands of the part. -/
inductive Instr where
  | supplyApplied
  | supplyLoss (cut : Deviation)
  | reset (cut : Deviation)
  | layoutChangeClose
  | loadingEnd
  | ignLineChange (high captureFirst : Bool)
  | wakeLineActive (active : Bool)
  | settleTimerExpiry
  | supplyWarning (active : Bool)
  | quietTimerExpiry
  | frameArrival (frame : Frame) (busFirst : Bool)
  | frameTaken
  | accountingTick
  | sourceTimerExpiry
  | channelSample (channel : Fin 24)
  | tickStep
  | stallTimerExpiry
  | countedEdge (unit : PulseId) (rising : Bool)
  | windowEnd (unit : PulseId)
  | linkStateChange (link : LinkState)
  | frameSent
  | burstFeed
  | keyCycleNoticeFeed
  | summaryTimerExpiry
  | statusTimerExpiry
  | checkpointIntervalExpiry
  | checkpointBegin
  | presetApplication (channel : Fin 24)
  | checkpointCompletion (dev : Deviation)
  | historyWriteBegin
  | historyWriteCompletion (dev : Deviation) (retryFirst : Bool)
  | deferredCloseRetry
  | historyReadBegin
  | historyReadCompletion
  | configReadBegin
  | configReadCompletion
  | configWriteBegin
  | configWriteCompletion (dev : Deviation)
  | wipeBegin
  | wipeCompletion (dev : Deviation)
  | readSignal (params : List Byte)
  | readChannel (params : List Byte)
  | readComponent (params : List Byte)
  | readSpectrum (params : List Byte)
  | readHistory (params : List Byte)
  | readFaults (params : List Byte)
  | readConfig (params : List Byte)
  | ackFaults (params : List Byte)
  | presetChannel (params : List Byte)
  | closeComponent (params : List Byte)
  | setIdentity (params : List Byte)
  | checkpointNow (params : List Byte)
  | wipeHistory (params : List Byte)
  | writeConfig (params : List Byte)
  | unknownRequestCode (data : List Byte)
  deriving DecidableEq, Repr

end Sys2Proof
end

