-- ==== Sys2Proof/Decode.lean ====
section
/-! DEFINITION. The commands that words spell. The rows of spec/opcode_table.json give no bits, so no word spells one. -/

namespace Sys2Proof

/-- The command that the lowest `nbits` bits of `w` spell by the table: none, since no row of the table gives bits. -/
def decodeTableWord (_nbits _w : Nat) : Option Instr := none

end Sys2Proof
end

