-- ==== Sys2Proof/Config.lean ====
section
/-! DEFINITION. The free values: what the manual leaves open and no proof may rest on. -/

namespace Sys2Proof

/-- A byte of an answer or of a stored record to which the manual gives no value (an absent identity, the
tallies of a slot that carries none, the fields of an empty capture: R197, R198). The number is the
position in the run's supply of free bytes, `State.freeCount` plus an offset. Nothing is known of it
(assumption log 20). -/
opaque Config.freeByte : Nat → BitVec 8

end Sys2Proof
end

