-- ==== Sys2Proof/Machine/State.lean ====
section
/-! DEFINITION. The state of the part as plain data, block by block, and `State.reset`. -/

namespace Sys2Proof.Machine

/-! ### Signals and sources (Chapter 1) -/

/-- The signals S0 to S13 of Table 1-1. -/
abbrev Sig := Fin 14

abbrev sEngineSpeed : Sig := 0
abbrev sEngineLoad : Sig := 1
abbrev sCoolantTemp : Sig := 2
abbrev sKeyState : Sig := 3
abbrev sStarterEngaged : Sig := 4
abbrev sGear : Sig := 5
abbrev sInputShaftSpeed : Sig := 6
abbrev sClutchSlip : Sig := 7
abbrev sGearboxOilTemp : Sig := 8
abbrev sRoadSpeed : Sig := 9
abbrev sPropSpeed : Sig := 10
abbrev sAxleOilTemp : Sig := 11
abbrev sRetarderLoad : Sig := 12
abbrev sPtoEngaged : Sig := 13

/-- Source numbers of R15: map entries 0 to 23, pulse units 24 and 25, IGN line 26. -/
abbrev Src := Fin 27

/-- States of a source (R9) and of a signal (R17); a source is never `absent`. -/
inductive SigState where
  | unknown
  | fresh
  | held
  | stale
  | unavailable
  | faulted
  | absent
  deriving DecidableEq, Repr

/-- A source with its presence record (R9, R19). A timer is `none` while stopped and counts the ticks
since it started while it runs. -/
structure Source where
  state   : SigState
  value   : Int
  timeout : Option Nat
  hold    : Option Nat
  frames  : Nat
  since   : Nat
  deriving DecidableEq, Repr

/-- One signal of the board (R17). -/
structure BoardSig where
  value  : Int
  state  : SigState
  active : Option Src
  deriving DecidableEq, Repr

abbrev Board := Vector BoardSig 14

/-- Signal capture: receive queue, sources, board (R1, R9, R17). -/
structure Capture where
  rx      : List Frame
  sources : Vector Source 27
  board   : Board
  deriving DecidableEq, Repr

/-! ### Running configuration (R155, R156, Table 12-3), as LOADING accepted it -/

/-- A valid signal map entry (R6). -/
structure MapEntry where
  ext       : Bool
  ident     : Nat
  target    : Sig
  start     : Nat
  bitOffset : Nat
  len       : Nat
  bigEndian : Bool
  gain      : Nat
  shift     : Nat
  offset    : Int
  timeout   : Nat
  hold      : Nat
  prio      : Nat
  deriving DecidableEq, Repr

/-- An accepted identity source (R5). -/
structure IdentSrc where
  ext    : Bool
  ident  : Nat
  offset : Nat
  deriving DecidableEq, Repr

/-- Component classes (R109). -/
inductive Class where
  | engine
  | starter
  | clutch
  | gearbox
  | retarder
  | propshaft
  | axle
  | transfer
  | pto
  deriving DecidableEq, Repr

/-- A band table as loaded, with the outcome of its check (R36). -/
inductive BandTable where
  | absent
  | rejected
  | valid (limits : List Int)
  deriving DecidableEq, Repr

/-- A weight map as loaded (R39). Weight bx, by stands at index 8 * bx + by. -/
inductive WeightMap where
  | absent
  | degraded (fallback : Nat)
  | valid (x : Sig) (xTable : Fin 10) (y : Sig) (yTable : Fin 10) (fallback : Nat) (weights : Vector Nat 64)
  deriving DecidableEq, Repr

/-- A temperature factor table as loaded (R41). -/
inductive FactorTable where
  | absent
  | degraded
  | valid (signal : Sig) (table : Fin 10) (factors : Vector Nat 8)
  deriving DecidableEq, Repr

/-- A gate term (R52). -/
structure GateTerm where
  signal : Sig
  low    : Int
  high   : Int
  deriving DecidableEq, Repr

/-- Policies of R57. -/
inductive Policy where
  | closed
  | opened
  | hold
  deriving DecidableEq, Repr

/-- Weight sources of R40. -/
inductive WeightSource where
  | constant (weight : Nat)
  | map (number : Fin 6)
  deriving DecidableEq, Repr

/-- The due basis (R52). -/
inductive DueBasis where
  | hours
  | wear
  deriving DecidableEq, Repr

/-- The items of an accepted channel (R52). -/
structure ChanCfg where
  slot       : Fin 12
  term1      : GateTerm
  term2      : Option GateTerm
  policy     : Policy
  qualify    : Nat
  separation : Nat
  weight     : WeightSource
  factor     : Option (Fin 3)
  revSource  : Option PulseId
  basis      : DueBasis
  threshold  : Nat
  deriving DecidableEq, Repr

/-- An accepted spectrum unit (R97): its owner, and its axes unless it is degraded. -/
structure SpecCfg where
  owner : Fin 24
  axes  : Option (Sig × Fin 10 × Sig × Fin 10)
  deriving DecidableEq, Repr

/-- Edges a pulse unit counts (R23). -/
inductive Edge where
  | rising
  | falling
  | both
  deriving DecidableEq, Repr

/-- Pulse unit status (Table 12-2). -/
inductive PulseStatus where
  | notInUse
  | unitRejected
  | noSource
  | sourceRejected
  | hasSource
  deriving DecidableEq, Repr

/-- The items of a pulse unit (R23); `target` is the signal of its source while it has one. -/
structure PulseCfg where
  status     : PulseStatus
  edge       : Edge
  teeth      : Nat
  target     : Sig
  prio       : Nat
  timeout    : Nat
  hold       : Nat
  wakeEnable : Bool
  tolerance  : Nat
  deriving DecidableEq, Repr

/-- The items of an accepted start unit (R79). -/
structure StartCfg where
  engine     : Fin 12
  starter    : Option (Fin 12)
  run        : Nat
  stop       : Nat
  confirm    : Nat
  stopTicks  : Nat
  crankLimit : Nat
  cold       : Int
  stall      : Nat
  deriving DecidableEq, Repr

/-- Bit rates of R156. -/
inductive BitRate where
  | k125
  | k250
  | k500
  deriving DecidableEq, Repr

/-- The running configuration and the fallback flag. -/
structure RunConfig where
  fallback   : Bool
  layout     : Nat
  station    : Nat
  base       : Nat
  bitRate    : BitRate
  ignUsed    : Bool
  ignPrio    : Option Nat
  entries    : Vector (Option MapEntry) 24
  identity   : Vector (Option IdentSrc) 12
  classes    : Vector (Option Class) 12
  bands      : Vector BandTable 10
  maps       : Vector WeightMap 6
  factors    : Vector FactorTable 3
  channels   : Vector (Option ChanCfg) 24
  spectra    : Vector (Option SpecCfg) 4
  pulseA     : PulseCfg
  pulseB     : PulseCfg
  start      : Option StartCfg
  interval   : Nat
  quiet      : Nat
  summary    : Nat
  faultMasks : BitVec 16
  dueMasks   : BitVec 24
  deriving DecidableEq, Repr

/-! ### Lines and power control (Chapter 9) -/

/-- Input levels and output lines (00_scope.md, External Connections). -/
structure Lines where
  ign     : Bool
  wake    : Bool
  warning : Bool
  stby    : Bool
  due     : Bool
  fault   : Bool
  deriving DecidableEq, Repr

/-- Power states of Table 9-1; `unsupplied` is the model's own, for a part without supply (log 12). -/
inductive PowerState where
  | unsupplied
  | loading
  | parked
  | waking
  | active
  | closing
  deriving DecidableEq, Repr

/-- Wake causes (Chapter 9). -/
inductive WakeCause where
  | none
  | ign
  | bus
  | pulseA
  | pulseB
  deriving DecidableEq, Repr

/-- Power control (Chapter 9, opening table). -/
structure Power where
  state        : PowerState
  cause        : WakeCause
  ramValid     : Bool
  pulseWake    : Option PulseId
  quietRunning : Bool
  quietCount   : Nat
  settle       : Bool
  keyCycles    : Nat
  keyOpen      : Bool
  deriving DecidableEq, Repr

/-! ### Pulse units (Chapter 2) -/

/-- The counters of a pulse unit (R24, R27, R30). -/
structure PulseUnit where
  prescaler   : Nat
  lifetime    : Nat
  running     : Bool
  windowTicks : Nat
  windowEdges : Nat
  disagree    : Nat
  deriving DecidableEq, Repr

/-! ### Wear channels (Chapter 4) -/

inductive ChanState where
  | disabled
  | idle
  | qualifying
  | running
  | lingering
  deriving DecidableEq, Repr

/-- Quantities a preset may name (R69). -/
inductive Quantity where
  | hours
  | wear
  | episodes
  | revolutions
  deriving DecidableEq, Repr

/-- A staged preset (R69). -/
structure Staged where
  quantity : Quantity
  value    : Nat
  base     : Nat
  deriving DecidableEq, Repr

/-- The runtime record of a channel (R54). -/
structure Channel where
  state       : ChanState
  lastOpen    : Bool
  qualify     : Nat
  linger      : Nat
  pendTicks   : Nat
  pendWeight  : Nat
  pendEst     : Nat
  pendRevs    : Nat
  hourPre     : Nat
  hours       : Nat
  estPre      : Nat
  estHours    : Nat
  wearAcc     : Nat
  wear        : Nat
  episodes    : Nat
  revs        : Nat
  clip        : Nat
  due         : Bool
  saturated   : Bool
  satReported : Bool
  staged      : Option Staged
  deriving DecidableEq, Repr

/-! ### Start unit (Chapter 5) -/

inductive StartState where
  | off
  | cranking
  | confirming
  | unverified
  | running
  deriving DecidableEq, Repr

inductive TempClass where
  | cold
  | warm
  | unknown
  deriving DecidableEq, Repr

/-- The state of the start unit (R82). -/
structure StartUnit where
  state        : StartState
  lastCrank    : Bool
  temp         : TempClass
  crankTicks   : Nat
  overCrank    : Bool
  confirm      : Nat
  stop         : Nat
  stallRunning : Bool
  stallCount   : Nat
  deriving DecidableEq, Repr

/-! ### Spectrum units (Chapter 6) -/

/-- The record of a spectrum unit (R98). -/
structure Spectrum where
  bins         : Vector Nat 64
  scale        : Nat
  divider      : Nat
  unclassified : Nat
  satReported  : Bool
  deriving DecidableEq, Repr

/-! ### Components and history (Chapters 5 and 7) -/

inductive CompState where
  | unidentified
  | present
  | candidate
  deriving DecidableEq, Repr

/-- The six engine tallies and the open-attempt mark (R80). -/
structure EngineTallies where
  attempts   : Nat
  starts     : Nat
  failed     : Nat
  unresolved : Nat
  cold       : Nat
  stalls     : Nat
  openMark   : Bool
  deriving DecidableEq, Repr

/-- The four starter tallies (R80). -/
structure StarterTallies where
  engagements : Nat
  crankTicks  : Nat
  overCranks  : Nat
  hotCranks   : Nat
  deriving DecidableEq, Repr

/-- The tallies a record or an entry carries (R110, R116). -/
inductive Tallies where
  | none
  | engine (t : EngineTallies)
  | starter (t : StarterTallies)
  deriving DecidableEq, Repr

/-- A component record (R110). -/
structure Component where
  state      : CompState
  identity   : Option Nat
  candidate  : Option Nat
  confirm    : Nat
  generation : Nat
  install    : Nat
  tallies    : Tallies
  deriving DecidableEq, Repr

/-- Close reasons (section 7.3). -/
inductive Reason where
  | identityChange
  | serviceClose
  | serviceIdentity
  | layoutChange
  deriving DecidableEq, Repr

/-- A channel record of a history entry (R116); no number means NONE. -/
structure EntryChan where
  number   : Option (Fin 24)
  hours    : Nat
  estHours : Nat
  wear     : Nat
  episodes : Nat
  revs     : Nat
  deriving DecidableEq, Repr

/-- A history entry (R116). -/
structure HistEntry where
  seq        : Nat
  slot       : Fin 12
  cls        : Class
  identity   : Option Nat
  generation : Nat
  install    : Nat
  closeKey   : Nat
  reason     : Reason
  chans      : List EntryChan
  tallies    : Tallies
  deriving DecidableEq, Repr

/-- The component table: records, history write queue, history index of positions and sequences, next
sequence (Chapter 7), and the layout closes LOADING has still to make (R126). -/
structure CompTable where
  slots      : Vector Component 12
  queue      : List HistEntry
  index      : List (Nat × Nat)
  nextSeq    : Nat
  layoutLeft : List HistEntry
  deriving DecidableEq, Repr

/-! ### Faults (Chapter 10) -/

/-- Fault kinds of Table 10-1, in kind number order. -/
inductive FaultKind where
  | cfgInvalid
  | cfgItem
  | sigStale
  | sigFaulted
  | sigDisagree
  | rxOverrun
  | txDrop
  | linkOff
  | storeTorn
  | storeWrite
  | unclosed
  | histOverflow
  | counterSat
  | presetAbandoned
  deriving DecidableEq, Repr

/-- The first-fault capture (R168); no index means NONE. -/
structure FaultCapture where
  kind     : FaultKind
  keyCycle : Nat
  index    : Option Nat
  elapsed  : Nat
  deriving DecidableEq, Repr

/-- A presence mark with its present index: `none` while absent, `some i` while present with index `i`
(`i = none` for NONE), R170. -/
abbrev Presence := Option (Option Nat)

/-- The fault record that checkpoints carry (R168). -/
structure FaultRecord where
  status  : Vector Bool 14
  counts  : Vector Nat 14
  capture : Option FaultCapture
  deriving DecidableEq, Repr

/-- The fault unit (R168, R176). -/
structure FaultUnit where
  record     : FaultRecord
  cfgInvalid : Presence
  cfgItem    : Presence
  sigStale   : Presence
  linkOff    : Presence
  storeWrite : Presence
  elapsed    : Nat
  dueSet     : Vector Bool 24
  deriving DecidableEq, Repr

/-! ### Record store (Chapter 8) -/

/-- A component record as a checkpoint carries it (R127): the class of a configured slot and the numbers
of its bound channels beside the record's own fields. -/
structure CkptComponent where
  cls        : Option Class
  identity   : Option Nat
  generation : Nat
  install    : Nat
  tallies    : Tallies
  bound      : List (Fin 24)
  deriving DecidableEq, Repr

/-- A channel record as a checkpoint carries it (R77). -/
structure CkptChannel where
  hours       : Nat
  estHours    : Nat
  wear        : Nat
  episodes    : Nat
  revs        : Nat
  hourPre     : Nat
  estPre      : Nat
  wearAcc     : Nat
  clip        : Nat
  satReported : Bool
  deriving DecidableEq, Repr

/-- The contents of a checkpoint (Table 8-2). -/
structure Checkpoint where
  layout      : Nat
  seq         : Nat
  orderly     : Bool
  keyCycles   : Nat
  unclosed    : Nat
  torn        : Nat
  lifetimeA   : Nat
  lifetimeB   : Nat
  components  : Vector CkptComponent 12
  channels    : Vector CkptChannel 24
  spectra     : Vector Spectrum 4
  faults      : FaultRecord
  queue       : List HistEntry
  nextSeq     : Nat
  openAttempt : Option (Fin 12)
  deriving DecidableEq, Repr

/-- An operation in flight at the store port (R131) with its data. -/
inductive StoreOp where
  | checkpoint (slot : Fin 11) (snapshot : Checkpoint)
  | historyWrite (entry : HistEntry) (bytes : List Byte)
  | historyRead (distance position seq : Nat)
  | configRead (offset : Nat)
  | configWrite (offset : Nat) (bytes : List Byte)
  | wipe
  deriving DecidableEq, Repr

/-- The record store controller (R131 to R148). -/
structure StoreCtl where
  port        : Option StoreOp
  discard     : Bool
  normal      : Bool
  urgent      : Bool
  orderly     : Bool
  followUp    : Bool
  interval    : Nat
  newest      : Option (Fin 11)
  newestSeq   : Nat
  lastIssued  : Nat
  bad         : Vector Bool 11
  disabled    : Bool
  lastFailed  : Option (Fin 11)
  wipePending : Bool
  wipeRunning : Bool
  unclosed    : Nat
  torn        : Nat
  deriving DecidableEq, Repr

/-! ### Bus traffic (Chapters 11 and 12) -/

/-- Kinds of the frames the part sends (00_scope.md, Identifiers). -/
inductive TxKind where
  | response
  | notice
  | status
  | summary
  deriving DecidableEq, Repr

/-- Origins of queued frames (section 11.1). -/
inductive Origin where
  | burst
  | busy
  | notice
  | status
  | summary
  deriving DecidableEq, Repr

/-- A frame the part sends: kind, origin, 29-bit identifier and data. -/
structure TxFrame where
  kind   : TxKind
  origin : Origin
  ident  : Nat
  data   : List Byte
  deriving DecidableEq, Repr

/-- The offer of the queue's head: none, offered to the link controller, or withdrawn under R181. -/
inductive Offer where
  | none
  | offered
  | withdrawn
  deriving DecidableEq, Repr

/-- A store request with the values kept in the slot while it waits (R191). -/
inductive StoreReq where
  | readHistory (distance : Nat)
  | readConfig (offset : Nat)
  | writeConfig (offset : Nat) (bytes : List Byte)
  deriving DecidableEq, Repr

/-- The request slot (R187); `begun` says whether the store operation is in flight. -/
inductive ReqSlot where
  | idle
  | waitingStore (req : StoreReq) (begun : Bool)
  | sending
  deriving DecidableEq, Repr

/-- Bus traffic (section 11). -/
structure Bus where
  queue        : List TxFrame
  offer        : Offer
  gate         : Bool
  link         : LinkState
  summaryCount : Nat
  statusCount  : Nat
  pointer      : Fin 24
  keyList      : List (Fin 24)
  slot         : ReqSlot
  burst        : List TxFrame
  fed          : Nat
  sent         : Nat
  deriving DecidableEq, Repr

/-! ### The whole state -/

/-- The state of the part, with the queue of waiting commands and the counter of free values, which are
the model's own. `nvm` is the non-volatile memory: the bytes of blocks 0 to 26 that do not read 0xFF, by rising
address (Table 8-1; assumption log 10). -/
structure State where
  cfg       : RunConfig
  lines     : Lines
  power     : Power
  cap       : Capture
  pulseA    : PulseUnit
  pulseB    : PulseUnit
  chans     : Vector Channel 24
  start     : StartUnit
  spectra   : Vector Spectrum 4
  comps     : CompTable
  faults    : FaultUnit
  store     : StoreCtl
  nvm       : List Host.Cell
  bus       : Bus
  freeCount : Nat
  pending   : List Instr
  deriving DecidableEq, Repr

/-- Reasons to stop with a fault: none. "The JT6410 keeps counting through most faults, so a fault here is
information for the depot and not a stop" (Chapter 10); the fault kinds are state of the fault unit. -/
inductive Fault where
  deriving DecidableEq, Repr

/-- Reasons to refuse a command. -/
inductive Refusal where
  /-- Raised by an arm of `exec` whose command has no meaning yet; safe. No arm does. -/
  | notModelled (mnemonic : String)
  deriving DecidableEq, Repr

/-! ### Values at the start of a record -/

/-- A source out of a start: UNKNOWN, value 0, timers stopped, no frame yet (R20). -/
def Source.initial : Source :=
  { state := .unknown, value := 0, timeout := none, hold := none, frames := 0, since := max16 }

/-- A signal without a valid source (R17). -/
def BoardSig.absent : BoardSig := { value := 0, state := .absent, active := none }

/-- The record of a DISABLED channel (R54). -/
def Channel.disabled : Channel :=
  { state := .disabled, lastOpen := false, qualify := 0, linger := 0, pendTicks := 0, pendWeight := 0,
    pendEst := 0, pendRevs := 0, hourPre := 0, hours := 0, estPre := 0, estHours := 0, wearAcc := 0,
    wear := 0, episodes := 0, revs := 0, clip := 0, due := false, saturated := false,
    satReported := false, staged := none }

/-- A start unit out of LOADING (R93). -/
def StartUnit.initial : StartUnit :=
  { state := .off, lastCrank := false, temp := .unknown, crankTicks := 0, overCrank := false,
    confirm := 0, stop := 0, stallRunning := false, stallCount := 0 }

/-- A spectrum record of zeros (R106). -/
def Spectrum.zero : Spectrum :=
  { bins := Vector.replicate 64 0, scale := 0, divider := 0, unclassified := 0, satReported := false }

/-- The record of zeros of an UNUSED slot (R109). -/
def Component.zero : Component :=
  { state := .unidentified, identity := none, candidate := none, confirm := 0, generation := 0,
    install := 0, tallies := .none }

/-- Engine tallies of a new record (R127). -/
def EngineTallies.zero : EngineTallies :=
  { attempts := 0, starts := 0, failed := 0, unresolved := 0, cold := 0, stalls := 0, openMark := false }

/-- Starter tallies of a new record (R127). -/
def StarterTallies.zero : StarterTallies :=
  { engagements := 0, crankTicks := 0, overCranks := 0, hotCranks := 0 }

/-- A fault record with every status clear, every count 0 and the capture empty (R177). -/
def FaultRecord.zero : FaultRecord :=
  { status := Vector.replicate 14 false, counts := Vector.replicate 14 0, capture := none }

/-- A fault unit before LOADING raises its first fault (Table 10-2). -/
def FaultUnit.initial : FaultUnit :=
  { record := FaultRecord.zero, cfgInvalid := none, cfgItem := none, sigStale := none, linkOff := none,
    storeWrite := none, elapsed := 0, dueSet := Vector.replicate 24 false }

/-- The record store controller at a cold start without a selected checkpoint (R150). -/
def StoreCtl.initial : StoreCtl :=
  { port := none, discard := false, normal := false, urgent := false, orderly := false, followUp := false,
    interval := 0, newest := none, newestSeq := 0, lastIssued := 0, bad := Vector.replicate 11 false,
    disabled := false, lastFailed := none, wipePending := false, wipeRunning := false, unclosed := 0,
    torn := 0 }

/-- Bus traffic at a cold start (R193). -/
def Bus.initial : Bus :=
  { queue := [], offer := .none, gate := false, link := .active, summaryCount := 0, statusCount := 0,
    pointer := 23, keyList := [], slot := .idle, burst := [], fed := 0, sent := 0 }

/-- Power control at the begin of LOADING (R152, R166). -/
def Power.initial : Power :=
  { state := .loading, cause := .none, ramValid := false, pulseWake := none, quietRunning := false,
    quietCount := 0, settle := false, keyCycles := 0, keyOpen := false }

/-- A pulse unit at a cold start without a checkpoint (R32). -/
def PulseUnit.initial : PulseUnit :=
  { prescaler := 0, lifetime := 0, running := false, windowTicks := 0, windowEdges := 0, disagree := 0 }

/-- The items of a pulse unit that is not in use (R23). -/
def PulseCfg.notInUse : PulseCfg :=
  { status := .notInUse, edge := .rising, teeth := 1, target := sPropSpeed, prio := 0, timeout := 1,
    hold := 0, wakeEnable := false, tolerance := 1 }

/-- Channel C0 of the fallback configuration (R53). R53 gives it no due basis; the model takes HOURS, on which nothing
rests while the due threshold is 0 (assumption log 41). -/
def ChanCfg.fallbackC0 : ChanCfg :=
  { slot := 0, term1 := { signal := sKeyState, low := 2, high := 2 }, term2 := none, policy := .closed,
    qualify := 0, separation := 0, weight := .constant 256, factor := none, revSource := none,
    basis := .hours, threshold := 0 }

/-- The fallback configuration (R155). -/
def RunConfig.fallbackConfig : RunConfig :=
  { fallback := true, layout := 0, station := 15, base := 0x18F00000, bitRate := .k250, ignUsed := true,
    ignPrio := some 0, entries := Vector.replicate 24 none, identity := Vector.replicate 12 none,
    classes := (Vector.replicate 12 none).set 0 (some .engine), bands := Vector.replicate 10 .absent,
    maps := Vector.replicate 6 .absent, factors := Vector.replicate 3 .absent,
    channels := (Vector.replicate 24 none).set 0 (some ChanCfg.fallbackC0),
    spectra := Vector.replicate 4 none, pulseA := PulseCfg.notInUse, pulseB := PulseCfg.notInUse,
    start := none, interval := 3000, quiet := 50, summary := 10, faultMasks := 0, dueMasks := 0 }

/-- The board of the fallback configuration after a cold start: KEY_STATE has the IGN source alone (R14, R20). -/
def Board.fallbackBoard : Board :=
  (Vector.replicate 14 BoardSig.absent).set 3 { value := 0, state := .unknown, active := some 26 }

/-- The part right after reset: the supply has been applied, the store is blank and the input lines are
low, so LOADING runs under the fallback configuration with CFG_INVALID raised (R152, R155; assumption
logs 10, 11, 13, 21). -/
def State.reset : State :=
  { cfg := RunConfig.fallbackConfig
    lines := { ign := false, wake := false, warning := false, stby := true, due := false, fault := false }
    power := Power.initial
    cap := { rx := [], sources := Vector.replicate 27 Source.initial, board := Board.fallbackBoard }
    pulseA := PulseUnit.initial
    pulseB := PulseUnit.initial
    chans := (Vector.replicate 24 Channel.disabled).set 0 { Channel.disabled with state := .idle }
    start := StartUnit.initial
    spectra := Vector.replicate 4 Spectrum.zero
    comps :=
      { slots := (Vector.replicate 12 Component.zero).set 0 { Component.zero with state := .present }
        queue := [], index := [], nextSeq := 0, layoutLeft := [] }
    faults :=
      { FaultUnit.initial with
        record :=
          { status := (Vector.replicate 14 false).set 0 true
            counts := (Vector.replicate 14 0).set 0 1
            capture := some { kind := .cfgInvalid, keyCycle := 0, index := some 43, elapsed := 0 } }
        cfgInvalid := some (some 43) }
    store := StoreCtl.initial
    nvm := []
    bus := Bus.initial
    freeCount := 0
    pending := [] }

end Sys2Proof.Machine
end

