-- ==== Sys2Proof/Machine/Bytes.lean ====
section
/-! DEFINITION. Byte order, bit fields and check words (00_scope.md Conventions; R7, R130, R194). -/

namespace Sys2Proof.Machine

/-- The `k` little-endian bytes of `n`. -/
def leBytes : Nat → Nat → List Byte
  | 0, _ => []
  | k + 1, n => BitVec.ofNat 8 n :: leBytes k (n / 256)

/-- The number that little-endian bytes spell. -/
def leNat : List Byte → Nat
  | [] => 0
  | b :: r => b.toNat + 256 * leNat r

/-- The number that big-endian bytes spell. -/
def beNat (bs : List Byte) : Nat := leNat bs.reverse

/-- Byte `i` of a list, 0 beyond its end. -/
def byteAt (bs : List Byte) (i : Nat) : Byte := bs.getD i 0

/-- The two's complement reading of a 16-bit number. -/
def signed16 (n : Nat) : Int := if n < 32768 then (n : Int) else (n : Int) - 65536

/-- The two little-endian bytes of a signed value in two's complement. -/
def signedBytes (v : Int) : List Byte := leBytes 2 (v % 65536).toNat

/-- Bits `lo` to `lo + width - 1` of a number. -/
def bitField (n lo width : Nat) : Nat := n / 2 ^ lo % 2 ^ width

/-- Bit `i` of a number. -/
def bitOf (n i : Nat) : Bool := decide (n / 2 ^ i % 2 = 1)

/-- The number a mark contributes at weight `w`. -/
def markBit (b : Bool) (w : Nat) : Nat := if b then w else 0

/-- The sum of the little-endian 16-bit words of a record (Terms, Check word). -/
def wordSum : List Byte → Nat
  | [] => 0
  | [a] => a.toNat
  | a :: b :: r => a.toNat + 256 * b.toNat + wordSum r

/-- The check word that makes the words of a record sum to 0 modulo 65,536. -/
def checkWord (bs : List Byte) : Nat := (65536 - wordSum bs % 65536) % 65536

/-- A stored record of `n` bytes and its check word: what it holds, 0xFF behind it up to byte `n - 1`, and the check
word (R136, R198). -/
def sealRecord (n : Nat) (body : List Byte) : List Byte :=
  let front := body.take n ++ List.replicate (n - body.length) 0xFF
  front ++ leBytes 2 (checkWord front)

/-- R130: every byte reads 0xFF. -/
def recordBlank (bs : List Byte) : Bool := bs.all fun b => decide (b = 0xFF)

/-- R130: the words sum to 0 modulo 65,536. -/
def checkHolds (bs : List Byte) : Bool := decide (wordSum bs % 65536 = 0)

end Sys2Proof.Machine
end

