-- ==== Sys2Proof/Machine/Ops.lean ====
section
/-! DEFINITION. The named operations over the store's bytes, the registers of each block and the free values. -/

namespace Sys2Proof.Machine

/-! ### The store's bytes -/

/-- What a byte of the store that is not listed reads as (R130, Blank; assumption log 10). -/
def unlistedByte : Byte := 0xFF

/-- The byte at an address. -/
def memRead : List Host.Cell → Nat → Byte
  | [], _ => unlistedByte
  | c :: r, a => if c.1 = a then c.2 else memRead r a

/-- The list with a cell in front, unless the cell reads as an unlisted byte. -/
def consCell (a : Nat) (b : Byte) (r : List Host.Cell) : List Host.Cell :=
  if b = unlistedByte then r else (a, b) :: r

/-- The write of one byte, which keeps addresses rising and lists no byte that reads as an unlisted one. -/
def memWrite : List Host.Cell → Nat → Byte → List Host.Cell
  | [], a, b => consCell a b []
  | c :: r, a, b =>
    if a < c.1 then consCell a b (c :: r)
    else if a = c.1 then consCell a b r
    else c :: memWrite r a b

/-- The cells of bytes at rising addresses from `a`. -/
def listCells : Nat → List Byte → List Host.Cell
  | _, [] => []
  | a, b :: r => consCell a b (listCells (a + 1) r)

/-- The write of bytes at rising addresses from `a`: the cells of their region replaced. -/
def memWriteBytes (m : List Host.Cell) (a : Nat) (bs : List Byte) : List Host.Cell :=
  (m.filter fun c => decide (c.1 < a)) ++ listCells a bs ++ m.filter fun c => decide (a + bs.length ≤ c.1)

/-- The write of differing bytes, each at its offset inside the region of `len` bytes from `a`; a byte
outside the region changes nothing. -/
def memWriteCells : List Host.Cell → Nat → Nat → Deviation → List Host.Cell
  | m, _, _, [] => m
  | m, a, len, p :: r => memWriteCells (if p.1 < len then memWrite m (a + p.1) p.2 else m) a len r

/-- The cells of a region. -/
def cellsIn (m : List Host.Cell) (a n : Nat) : List Host.Cell :=
  m.filter fun c => decide (a ≤ c.1) && decide (c.1 < a + n)

/-- The bytes of a region of `n` bytes from `a`. -/
def memSlice (m : List Host.Cell) (a n : Nat) : List Byte :=
  let region := cellsIn m a n
  (List.range n).map fun i => memRead region (a + i)

/-- Every byte of a region set to 0xFF. -/
def memErase (m : List Host.Cell) (a n : Nat) : List Host.Cell :=
  m.filter fun c => !(decide (a ≤ c.1) && decide (c.1 < a + n))

/-- The size of the store: 27 blocks of 2 KiB (Table 8-1). -/
abbrev storeSize : Nat := 0xD800

/-- Addresses strictly rising from `lo`, inside the store, and no cell that reads as an unlisted byte. -/
def memWfFrom : Nat → List Host.Cell → Bool
  | _, [] => true
  | lo, c :: r => decide (lo ≤ c.1) && decide (c.1 < storeSize) && decide (c.2 ≠ unlistedByte) && memWfFrom (c.1 + 1) r

/-- The canonical form of the store's bytes. -/
def memWf (m : List Host.Cell) : Bool := memWfFrom 0 m

/-! ### One block of the state replaced -/

def State.setCfg (s : State) (x : RunConfig) : State := { s with cfg := x }
def State.setLines (s : State) (x : Lines) : State := { s with lines := x }
def State.setPower (s : State) (x : Power) : State := { s with power := x }
def State.setCap (s : State) (x : Capture) : State := { s with cap := x }
def State.setPulseA (s : State) (x : PulseUnit) : State := { s with pulseA := x }
def State.setPulseB (s : State) (x : PulseUnit) : State := { s with pulseB := x }
def State.setChans (s : State) (x : Vector Channel 24) : State := { s with chans := x }
def State.setStart (s : State) (x : StartUnit) : State := { s with start := x }
def State.setSpectra (s : State) (x : Vector Spectrum 4) : State := { s with spectra := x }
def State.setComps (s : State) (x : CompTable) : State := { s with comps := x }
def State.setFaults (s : State) (x : FaultUnit) : State := { s with faults := x }
def State.setStore (s : State) (x : StoreCtl) : State := { s with store := x }
def State.setNvm (s : State) (x : List Host.Cell) : State := { s with nvm := x }
def State.setBus (s : State) (x : Bus) : State := { s with bus := x }
def State.setFreeCount (s : State) (x : Nat) : State := { s with freeCount := x }
def State.setPending (s : State) (x : List Instr) : State := { s with pending := x }

/-- One channel's record replaced. -/
def State.setChan (s : State) (c : Fin 24) (ch : Channel) : State := s.setChans (s.chans.set c ch)

/-- One component record replaced. -/
def State.setSlot (s : State) (i : Fin 12) (r : Component) : State :=
  s.setComps { s.comps with slots := s.comps.slots.set i r }

/-- One spectrum unit's record replaced. -/
def State.setSpectrum (s : State) (u : Fin 4) (r : Spectrum) : State := s.setSpectra (s.spectra.set u r)

/-- A pulse unit's counters. -/
def State.pulse (s : State) : PulseId → PulseUnit
  | .a => s.pulseA
  | .b => s.pulseB

/-- A pulse unit's counters replaced. -/
def State.setPulse (s : State) (u : PulseId) (x : PulseUnit) : State :=
  match u with
  | .a => s.setPulseA x
  | .b => s.setPulseB x

/-- A pulse unit's items. -/
def pulseCfg (cfg : RunConfig) : PulseId → PulseCfg
  | .a => cfg.pulseA
  | .b => cfg.pulseB

/-- The source number of a pulse unit (R15). -/
def pulseSrc : PulseId → Src
  | .a => 24
  | .b => 25

/-- R23: a unit in use and not rejected as a whole. -/
def pulseInUse (p : PulseCfg) : Bool :=
  match p.status with
  | .notInUse | .unitRejected => false
  | .noSource | .sourceRejected | .hasSource => true

/-- Counted edges per tooth m (R23). -/
def edgesPerTooth : Edge → Nat
  | .rising | .falling => 1
  | .both => 2

/-- Counted edges per revolution T * m (R23). -/
def edgesPerRev (p : PulseCfg) : Nat := p.teeth * edgesPerTooth p.edge

/-! ### Power states -/

/-- The link controller runs (Table 9-1): ACTIVE or CLOSING. -/
def linkRunning (s : State) : Bool :=
  match s.power.state with
  | .active | .closing => true
  | .unsupplied | .loading | .parked | .waking => false

/-- The part is ACTIVE. -/
def isActive (s : State) : Bool := decide (s.power.state = .active)

/-! ### Free values -/

/-- The free byte at offset `i` of the present supply (assumption log 20). -/
def freeByteAt (s : State) (i : Nat) : Byte := Config.freeByte (s.freeCount + i)

/-- `n` free bytes from offset `i` of the present supply. -/
def freeBytesAt (s : State) (i n : Nat) : List Byte := (List.range n).map fun j => freeByteAt s (i + j)

/-- The supply moved on by `n` bytes. -/
def takeFree (n : Nat) (s : State) : State := s.setFreeCount (s.freeCount + n)

end Sys2Proof.Machine
end

