-- ==== Sys2Proof/Machine/Tables.lean ====
section
/-! DEFINITION. Signal ranges, band lookups, weights and factors (Table 1-1; R36 to R45). -/

namespace Sys2Proof.Machine

/-- The lower bound of a signal's range (Table 1-1). -/
def sigLow (i : Sig) : Int :=
  match i.val with
  | 2 | 8 | 11 => -40
  | 5 => -2
  | _ => 0

/-- The upper bound of a signal's range (Table 1-1). -/
def sigHigh (i : Sig) : Int :=
  match i.val with
  | 0 | 6 | 7 | 10 => 8000
  | 1 => 125
  | 2 | 8 | 11 => 150
  | 3 => 3
  | 4 | 13 => 1
  | 5 => 18
  | 9 => 250
  | _ => 100

/-- R17: a usable state is FRESH or HELD. -/
def usable : SigState → Bool
  | .fresh | .held => true
  | .unknown | .stale | .unavailable | .faulted | .absent => false

/-- R37: the lowest band whose limit is at or above the value, or the number of limits. -/
def bandOf : List Int → Int → Nat
  | [], _ => 0
  | l :: r, v => if v ≤ l then 0 else bandOf r v + 1

/-- The limits of a table; a table that answers no lookup has none. -/
def tableLimits (cfg : RunConfig) (t : Fin 10) : List Int :=
  match cfg.bands[t] with
  | .valid limits => limits
  | .absent | .rejected => []

/-- Entry 8 * bx + by of a grid of 64, where it has one. -/
def gridAt (v : Vector Nat 64) (bx by' : Nat) : Nat := v.toList.getD (8 * bx + by') 0

/-- R40: the base weight of a sample, and whether the map marks it estimated. -/
def baseWeight (cfg : RunConfig) (b : Board) : WeightSource → Nat × Bool
  | .constant w => (w, false)
  | .map m =>
    match cfg.maps[m] with
    | .absent => (0, false)
    | .degraded fallback => (fallback, false)
    | .valid x xt y yt fallback weights =>
      if usable b[x].state && usable b[y].state then
        (gridAt weights (bandOf (tableLimits cfg xt) b[x].value) (bandOf (tableLimits cfg yt) b[y].value), false)
      else (fallback, true)

/-- R42: the factor of a sample, and whether it marks the sample estimated. -/
def sampleFactor (cfg : RunConfig) (b : Board) : Option (Fin 3) → Nat × Bool
  | none => (256, false)
  | some t =>
    match cfg.factors[t] with
    | .absent | .degraded => (256, false)
    | .valid sig table factors =>
      if usable b[sig].state then (factors.toList.getD (bandOf (tableLimits cfg table) b[sig].value) 0, false)
      else (256, true)

/-- R44: the weight formed from base weight and factor, and whether it clips. -/
def formWeight (w0 f : Nat) : Nat × Bool :=
  if w0 * f / 256 ≤ max16 then (w0 * f / 256, false) else (max16, true)

/-- The weight a sample forms (R44), whether it clips, and whether it is estimated (R45). -/
structure Weighed where
  weight    : Nat
  clips     : Bool
  estimated : Bool
  deriving DecidableEq, Repr

/-- R43 to R45 for one sample of a channel, given whether its gate was decided by policy. -/
def weigh (cfg : RunConfig) (b : Board) (cc : ChanCfg) (gateEstimated : Bool) : Weighed :=
  let w0 := baseWeight cfg b cc.weight
  let f := sampleFactor cfg b cc.factor
  let w := formWeight w0.1 f.1
  { weight := w.1, clips := w.2, estimated := gateEstimated || w0.2 || f.2 }

/-- R56, R57: the value of a term. -/
def termTrue (b : Board) (p : Policy) (lastOpen : Bool) (t : GateTerm) : Bool :=
  if usable b[t.signal].state then decide (t.low ≤ b[t.signal].value) && decide (b[t.signal].value ≤ t.high)
  else
    match p with
    | .closed => false
    | .opened => true
    | .hold => lastOpen

/-- Whether a term took its value from the policy (R57). -/
def termByPolicy (b : Board) (t : GateTerm) : Bool := !usable b[t.signal].state

/-- R56: the gate decision. -/
def gateOpen (b : Board) (cc : ChanCfg) (lastOpen : Bool) : Bool :=
  termTrue b cc.policy lastOpen cc.term1 &&
    match cc.term2 with
    | none => true
    | some t => termTrue b cc.policy lastOpen t

/-- R57: an open gate with a term decided by the OPEN or HOLD policy. -/
def gateEstimated (b : Board) (cc : ChanCfg) (lastOpen : Bool) : Bool :=
  gateOpen b cc lastOpen && decide (cc.policy ≠ .closed) &&
    (termByPolicy b cc.term1 ||
      match cc.term2 with
      | none => false
      | some t => termByPolicy b t)

end Sys2Proof.Machine
end

