-- ==== Sys2Proof/Machine/Credit.lean ====
section
/-! DEFINITION. What a sample, a revolution event, a preset, a close-out and a restart do to one channel's
record (R46 to R49, R58 to R73, R76). Each is a function of the record alone. -/

namespace Sys2Proof.Machine

/-- Ticks in a centihour (R62). -/
abbrev centihour : Nat := 360

/-- Raw weight units in a centi wear-hour (R46). -/
abbrev centiWear : Nat := 92160

/-- R62, R63, R65: a counter of centihours and its prescaler after `n` more ticks, n below 360. A carry at a counter that
already holds its maximum returns the prescaler to 0, as R65 says, and drops the remainder that R63's subtraction of 360
would keep (assumption log 46). -/
def addTicks (counter pre n : Nat) : Nat × Nat :=
  if pre + n < centihour then (counter, pre + n)
  else (satAdd max32 counter 1, if max32 ≤ counter then 0 else pre + n - centihour)

/-- R46, R47, R49: wear and its accumulator after `w` more raw units. -/
def addWear (wear acc w : Nat) : Nat × Nat :=
  if max32 ≤ wear + (acc + w) / centiWear then (max32, 0)
  else (wear + (acc + w) / centiWear, (acc + w) % centiWear)

/-- R62, R63: crediting `ticks` ticks, `est` of them estimated, of `weight` raw units in all and `revs` revolutions. -/
def creditTicks (ticks est weight revs : Nat) (ch : Channel) : Channel :=
  let h := addTicks ch.hours ch.hourPre ticks
  let e := addTicks ch.estHours ch.estPre est
  let w := addWear ch.wear ch.wearAcc weight
  { ch with hours := h.1, hourPre := h.2, estHours := e.1, estPre := e.2, wear := w.1, wearAcc := w.2,
            revs := satAdd max32 ch.revs revs }

/-- R44: the clip count after a sample. -/
def countClip (w : Weighed) (ch : Channel) : Channel := { ch with clip := satAdd max16 ch.clip (markBit w.clips 1) }

/-- An empty pending tally and a qualify count of 0. -/
def dropPending (ch : Channel) : Channel :=
  { ch with qualify := 0, pendTicks := 0, pendWeight := 0, pendEst := 0, pendRevs := 0 }

/-- R59: one sample pended. -/
def pendSample (w : Weighed) (ch : Channel) : Channel :=
  { countClip w ch with
    state := .qualifying, qualify := ch.qualify + 1, pendTicks := ch.pendTicks + 1,
    pendWeight := ch.pendWeight + w.weight, pendEst := ch.pendEst + markBit w.estimated 1 }

/-- R62: one sample credited, the channel RUNNING with no count of closed samples. -/
def creditSample (w : Weighed) (ch : Channel) : Channel :=
  { creditTicks 1 (markBit w.estimated 1) w.weight 0 (countClip w ch) with state := .running, linger := 0 }

/-- One more episode (R58, R59). -/
def countEpisode (ch : Channel) : Channel := { ch with episodes := satAdd max32 ch.episodes 1 }

/-- R63: the qualification step. -/
def qualifyChannel (w : Weighed) (ch : Channel) : Channel :=
  { dropPending
      (creditTicks (ch.pendTicks + 1) (ch.pendEst + markBit w.estimated 1) (ch.pendWeight + w.weight) ch.pendRevs
        (countEpisode (countClip w ch))) with
    state := .running }

/-- What a sample sends to the spectrum units the channel owns (R74): nothing, a spectrum sample, or a
spectrum sample with a pending-tick count. -/
inductive SpectrumSend where
  | nothing
  | sample
  | qualified (ticks : Nat)
  deriving DecidableEq, Repr

/-- R58 to R61, Table 4-1: a sample by state and gate, and what it sends. The last gate is set by `sampleChannel`. -/
def moveChannel (cc : ChanCfg) (isOpen : Bool) (w : Weighed) (ch : Channel) : Channel × SpectrumSend :=
  match ch.state, isOpen with
  | .disabled, _ => (ch, .nothing)
  | .idle, false => (ch, .nothing)
  | .idle, true =>
    if cc.qualify = 0 then (creditSample w (countEpisode ch), .sample)
    else (pendSample w (dropPending ch), .nothing)
  | .qualifying, true =>
    if ch.qualify < cc.qualify then (pendSample w ch, .nothing)
    else (qualifyChannel w ch, .qualified ch.pendTicks)
  | .qualifying, false => ({ dropPending ch with state := .idle }, .nothing)
  | .running, true => (creditSample w ch, .sample)
  | .running, false =>
    if cc.separation = 0 then ({ ch with state := .idle }, .nothing)
    else ({ ch with state := .lingering, linger := 0 }, .nothing)
  | .lingering, true => (creditSample w ch, .sample)
  | .lingering, false =>
    if ch.linger + 1 < cc.separation then ({ ch with linger := ch.linger + 1 }, .nothing)
    else ({ ch with linger := 0, state := .idle }, .nothing)

/-- R55, R57: a whole sample of a channel against the board, with the last gate it leaves. -/
def sampleChannel (cfg : RunConfig) (b : Board) (cc : ChanCfg) (ch : Channel) : Channel × SpectrumSend :=
  let isOpen := gateOpen b cc ch.lastOpen
  let m := moveChannel cc isOpen (weigh cfg b cc (gateEstimated b cc ch.lastOpen)) ch
  ({ m.1 with lastOpen := isOpen }, m.2)

/-- R64: a revolution event. -/
def revolveChannel (ch : Channel) : Channel :=
  match ch.state with
  | .running => { ch with revs := satAdd max32 ch.revs 1 }
  | .qualifying => { ch with pendRevs := satAdd max32 ch.pendRevs 1 }
  | .disabled | .idle | .lingering => ch

/-- R65: at least one of the five 32-bit counters is at its maximum. -/
def anySaturated (ch : Channel) : Bool :=
  decide (max32 ≤ ch.hours) || decide (max32 ≤ ch.estHours) || decide (max32 ≤ ch.wear) ||
    decide (max32 ≤ ch.episodes) || decide (max32 ≤ ch.revs)

/-- The counter named by the due basis (R67). -/
def basisCounter (cc : ChanCfg) (ch : Channel) : Nat :=
  match cc.basis with
  | .hours => ch.hours
  | .wear => ch.wear

/-- R67: the due test. -/
def dueTest (cc : ChanCfg) (ch : Channel) : Bool :=
  decide (0 < cc.threshold) && decide (cc.threshold ≤ basisCounter cc ch)

/-- The current value of a quantity (R69). -/
def quantityOf (q : Quantity) (ch : Channel) : Nat :=
  match q with
  | .hours => ch.hours
  | .wear => ch.wear
  | .episodes => ch.episodes
  | .revolutions => ch.revs

/-- R69: a preset staged, with the quantity's current value as base. -/
def stagePreset (q : Quantity) (p : Nat) (ch : Channel) : Channel :=
  { ch with staged := some { quantity := q, value := p, base := quantityOf q ch } }

/-- R71: estimated hours and prescaler brought into line with hours `ch.hours`. -/
def alignEstimated (ch : Channel) : Channel :=
  let lowered := if ch.hours < ch.estHours then { ch with estHours := ch.hours, estPre := 0 } else ch
  if lowered.estHours = lowered.hours ∧ lowered.hourPre < lowered.estPre then
    { lowered with estPre := lowered.hourPre }
  else lowered

/-- R70, R71: a staged preset applied. -/
def applyPreset (st : Staged) (ch : Channel) : Channel :=
  let v := satAdd max32 st.value (quantityOf st.quantity ch - st.base)
  let ch' := { ch with staged := none }
  match st.quantity with
  | .hours => alignEstimated { ch' with hours := v }
  | .wear => { ch' with wear := v, wearAcc := if max32 ≤ v then 0 else ch.wearAcc }
  | .episodes => { ch' with episodes := v }
  | .revolutions => { ch' with revs := v }

/-- R73: what a close-out clears. -/
def closeOutChannel (ch : Channel) : Channel :=
  { ch with hours := 0, estHours := 0, wear := 0, episodes := 0, revs := 0, hourPre := 0, estPre := 0,
            wearAcc := 0, clip := 0, due := false, saturated := false, satReported := false, staged := none }

/-- R76: the episode ended, at a warm restart, at the wake and at CLOSING entry. -/
def endEpisode (ch : Channel) : Channel :=
  match ch.state with
  | .disabled => ch
  | .idle | .qualifying | .running | .lingering =>
    { dropPending ch with state := .idle, lastOpen := false, linger := 0 }

end Sys2Proof.Machine
end

