-- ==== Sys2Proof/Machine/Transmit.lean ====
section
/-! DEFINITION. The transmit queue: forming, placing, displacing and offering frames (R179 to R181, R194). -/

namespace Sys2Proof.Machine

/-- The frame kind number (00_scope.md, Identifiers). -/
def txKindNumber : TxKind → Nat
  | .response => 1
  | .notice => 2
  | .status => 3
  | .summary => 4

/-- R194: the identifier is the base plus 16 times the kind plus the station number. -/
def txIdent (cfg : RunConfig) (k : TxKind) : Nat := cfg.base + 16 * txKindNumber k + cfg.station

/-- A frame of the part's own. -/
def formFrame (cfg : RunConfig) (k : TxKind) (o : Origin) (data : List Byte) : TxFrame :=
  { kind := k, origin := o, ident := txIdent cfg k, data := data }

/-- R194: a page of data length above 8 is sent in the flexible-data-length format. -/
def flexibleLength (f : TxFrame) : Bool := decide (8 < f.data.length)

/-- R179: ascending identifier, and order of joining among equal identifiers. -/
def insertFrame (f : TxFrame) : List TxFrame → List TxFrame
  | [] => [f]
  | g :: r => if f.ident < g.ident then f :: g :: r else g :: insertFrame f r

/-- The queue with its head protected while that head is offered or its offer was withdrawn (R179). -/
def aroundHead (o : Offer) (f : List TxFrame → List TxFrame) (q : List TxFrame) : List TxFrame :=
  match o, q with
  | .none, q => f q
  | _, [] => f []
  | _, h :: r => h :: f r

/-- R179: the place of a joining frame. -/
def placeFrame (f : TxFrame) (b : Bus) : Bus := { b with queue := aroundHead b.offer (insertFrame f) b.queue }

/-- R180: the SUMMARY frames of a list without the one that joined most recently, if it holds any. -/
def withoutLastSummary : List TxFrame → Option (List TxFrame)
  | [] => none
  | f :: r =>
    match withoutLastSummary r with
    | some r' => some (f :: r')
    | none => if f.origin = .summary then some r else none

/-- R180: the queue after the removal that makes room, if it can be made. A summary at the head that is
offered or withdrawn is not removed. -/
def displaced (b : Bus) : Option (List TxFrame) :=
  match b.offer, b.queue with
  | .none, q => withoutLastSummary q
  | _, [] => none
  | _, h :: r => (withoutLastSummary r).map fun r' => h :: r'

/-- R180: a frame joins; the mark says whether a frame that is no summary was dropped. -/
def joinQueue (f : TxFrame) (b : Bus) : Bus × Bool :=
  if b.queue.length < 8 then (placeFrame f b, false)
  else if f.origin = .summary then (b, false)
  else
    match displaced b with
    | some q => (placeFrame f { b with queue := q }, false)
    | none => (b, true)

/-- R179: the gate is open, the part is ACTIVE or CLOSING and the link state is not LINK_OFF. -/
def mayOffer (s : State) : Bool := s.bus.gate && linkRunning s && decide (s.bus.link ≠ .off)

/-- R179: the head is offered whenever the queue is not empty, nothing is offered and an offer may be made. -/
def offerHead (s : State) : State :=
  if mayOffer s && !s.bus.queue.isEmpty then s.setBus { s.bus with offer := .offered } else s

/-- R181: shutting the gate withdraws the offer of an offered frame and returns the timer counts to 0 (R183, R184). -/
def shutGate (s : State) : State :=
  s.setBus
    { s.bus with
      gate := false
      offer := (match s.bus.offer with | .none => .none | .offered => .withdrawn | .withdrawn => .withdrawn)
      summaryCount := 0
      statusCount := 0 }

end Sys2Proof.Machine
end

