-- ==== Sys2Proof/Machine/Faults.lean ====
section
/-! DEFINITION. The fault unit: raises, reports, presence, and frames that join the queue with their
TX_DROP (R168 to R175, R180). -/

namespace Sys2Proof.Machine

/-- The kind number of Table 10-1. -/
def kindIndex : FaultKind → Fin 14
  | .cfgInvalid => 0
  | .cfgItem => 1
  | .sigStale => 2
  | .sigFaulted => 3
  | .sigDisagree => 4
  | .rxOverrun => 5
  | .txDrop => 6
  | .linkOff => 7
  | .storeTorn => 8
  | .storeWrite => 9
  | .unclosed => 10
  | .histOverflow => 11
  | .counterSat => 12
  | .presetAbandoned => 13

/-- The kinds in kind number order. -/
def allKinds : List FaultKind :=
  [.cfgInvalid, .cfgItem, .sigStale, .sigFaulted, .sigDisagree, .rxOverrun, .txDrop, .linkOff, .storeTorn,
    .storeWrite, .unclosed, .histOverflow, .counterSat, .presetAbandoned]

/-- The mask of a kind (R172). -/
def masked (cfg : RunConfig) (k : FaultKind) : Bool := cfg.faultMasks.getLsbD (kindIndex k)

/-- The status of a kind (R168). -/
def statusOf (f : FaultUnit) (k : FaultKind) : Bool := f.record.status[kindIndex k]

/-- The presence of a condition kind's cause, with its present index (R170); nothing is ever present of an event kind. -/
def presenceOf (f : FaultUnit) : FaultKind → Presence
  | .cfgInvalid => f.cfgInvalid
  | .cfgItem => f.cfgItem
  | .sigStale => f.sigStale
  | .linkOff => f.linkOff
  | .storeWrite => f.storeWrite
  | .sigFaulted | .sigDisagree | .rxOverrun | .txDrop | .storeTorn | .unclosed | .histOverflow | .counterSat
  | .presetAbandoned => none

/-- R169 on the fault record: count, capture if empty, status. -/
def raiseRecord (k : FaultKind) (index : Option Nat) (keyCycle elapsed : Nat) (r : FaultRecord) : FaultRecord :=
  { status := r.status.set (kindIndex k) true
    counts := r.counts.set (kindIndex k) (satAdd max8 r.counts[kindIndex k] 1)
    capture :=
      match r.capture with
      | none => some { kind := k, keyCycle := keyCycle, index := index, elapsed := elapsed }
      | some c => some c }

/-- R169 on the state, without the report. -/
def recordRaise (k : FaultKind) (index : Option Nat) (s : State) : State :=
  s.setFaults { s.faults with record := raiseRecord k index s.power.keyCycles s.faults.elapsed s.faults.record }

/-- R174: the raise turns an unmasked kind on in ACTIVE or CLOSING. -/
def reportsRaise (k : FaultKind) (s : State) : Bool :=
  !statusOf s.faults k && !masked s.cfg k && linkRunning s

/-- A byte that names a number, or 0xFF for NONE (Chapter 12). -/
def indexByte : Option Nat → Byte
  | none => 0xFF
  | some n => BitVec.ofNat 8 n

/-- R196: the FAULT notice of a kind, with its count after the raise. -/
def faultNotice (k : FaultKind) (index : Option Nat) (s : State) : TxFrame :=
  formFrame s.cfg .notice .notice
    [3, BitVec.ofNat 8 (kindIndex k).val, indexByte index, BitVec.ofNat 8 s.faults.record.counts[kindIndex k]]

/-- R169, R174, R180: a raise, the FAULT notice it queues, and the TX_DROP raised when that notice is
dropped. A dropped notice raises TX_DROP, whose own notice may be dropped once more; TX_DROP is then set
already and reports nothing, so two further raises are the most there can be. -/
def raiseFuel : Nat → FaultKind → Option Nat → State → State
  | 0, k, i, s => recordRaise k i s
  | fuel + 1, k, i, s =>
    let s1 := recordRaise k i s
    if reportsRaise k s then
      let j := joinQueue (faultNotice k i s1) s1.bus
      let s2 := offerHead (s1.setBus j.1)
      if j.2 then raiseFuel fuel .txDrop (some 2) s2 else s2
    else s1

/-- R169: a raise of a kind with a capture index. -/
def raise (k : FaultKind) (index : Option Nat) (s : State) : State := raiseFuel 3 k index s

/-- R180: a frame joins the queue, and TX_DROP is raised with its kind when it is dropped. -/
def queueFrame (f : TxFrame) (s : State) : State :=
  let j := joinQueue f s.bus
  let s1 := offerHead (s.setBus j.1)
  if j.2 then raise .txDrop (some (txKindNumber f.kind)) s1 else s1

/-- Raises of one kind, one for each index, in list order (assumption log 15). -/
def raiseEach (k : FaultKind) : List Nat → State → State
  | [], s => s
  | i :: r, s => raiseEach k r (raise k (some i) s)

/-- R175: what step 3 does for one named kind. -/
def reRaise (named : FaultKind → Bool) (s : State) (k : FaultKind) : State :=
  if named k then
    match presenceOf s.faults k with
    | none => s
    | some index => raise k index s
  else s

/-- R175, steps 1 and 2: named kinds clear, and a capture of a named kind empties. -/
def ackRecord (named : FaultKind → Bool) (r : FaultRecord) : FaultRecord :=
  { status := Vector.ofFn fun i => r.status[i] && !(allKinds.any fun k => decide (kindIndex k = i) && named k)
    counts := r.counts
    capture :=
      match r.capture with
      | none => none
      | some c => if named c.kind then none else some c }

/-- R175: the whole of ACK FAULTS at the fault unit. -/
def acknowledge (named : FaultKind → Bool) (s : State) : State :=
  allKinds.foldl (reRaise named) (s.setFaults { s.faults with record := ackRecord named s.faults.record })

/-- R178: the number of unmasked kinds set in the status. -/
def unmaskedCount (s : State) : Nat :=
  (allKinds.filter fun k => statusOf s.faults k && !masked s.cfg k).length

/-- R176: the channels with a clear due mask whose due set mark is set. -/
def dueCount (s : State) : Nat :=
  ((List.finRange 24).filter fun (c : Fin 24) => s.faults.dueSet[c] && !s.cfg.dueMasks.getLsbD c.val).length

end Sys2Proof.Machine
end

