-- ==== Sys2Proof/Machine/Flags.lean ====
section
/-! DEFINITION. Flags, marks and lines that follow from what they watch: saturated and due flags, due
notices, checkpoint request flags, output lines (R65 to R68, R133, R173, R176, R185). -/

namespace Sys2Proof.Machine

/-- Whole hours or wear-hours of a counter, held at 24 bits (R183). -/
def wholeUnits (counter : Nat) : Nat := min max24 (counter / 100)

/-- The basis code of a DUE notice (R196). -/
def basisCode : DueBasis → Byte
  | .hours => 0
  | .wear => 1

/-- R196: a DUE notice of a channel with its cause, 0 TURN_ON or 1 KEY_CYCLE. -/
def dueNotice (s : State) (c : Fin 24) (cc : ChanCfg) (cause : Byte) : TxFrame :=
  formFrame s.cfg .notice .notice
    ([1, BitVec.ofNat 8 c.val, basisCode cc.basis, cause] ++ leBytes 3 (wholeUnits (basisCounter cc s.chans[c])))

/-- R68, R176, R185: a turn of a channel's due flag, with the due set mark and, at a turn on while the link
controller runs, the DUE notice. -/
def turnDue (c : Fin 24) (cc : ChanCfg) (on : Bool) (s : State) : State :=
  let s1 := s.setChan c { s.chans[c] with due := on }
  let s2 := s1.setFaults { s1.faults with dueSet := s1.faults.dueSet.set c on }
  if on && linkRunning s2 then queueFrame (dueNotice s2 c cc 0) s2 else s2

/-- R67: the due flag retested when the basis counter is no longer `before`. -/
def retestDue (c : Fin 24) (cc : ChanCfg) (before : Nat) (s : State) : State :=
  if basisCounter cc s.chans[c] = before then s
  else if dueTest cc s.chans[c] = s.chans[c].due then s
  else turnDue c cc (dueTest cc s.chans[c]) s

/-- R65, R66: the saturated flag recomputed, and whether COUNTER_SAT is raised with the mark set. -/
def withSaturation (ch : Channel) : Channel × Bool :=
  let report := anySaturated ch && !ch.saturated && !ch.satReported
  ({ ch with saturated := anySaturated ch, satReported := ch.satReported || report }, report)

/-- A channel's record after a change of its counters: saturation (R65, R66), then due (R67), in the order of R70
(assumption log 15 for a sample and a revolution event). -/
def commitChannel (c : Fin 24) (cc : ChanCfg) (ch : Channel) (s : State) : State :=
  let before := basisCounter cc s.chans[c]
  let sat := withSaturation ch
  let s1 := s.setChan c sat.1
  let s2 := if sat.2 then raise .counterSat (some c.val) s1 else s1
  retestDue c cc before s2

/-- R133: a normal checkpoint request. -/
def requestNormal (s : State) : State := s.setStore { s.store with normal := true }

/-- R133: an urgent checkpoint request. -/
def requestUrgent (s : State) : State := s.setStore { s.store with urgent := true }

/-- R133, R164: an urgent request with the orderly mark. -/
def requestOrderly (s : State) : State := s.setStore { s.store with urgent := true, orderly := true }

/-- R167, Table 9-1: STBY is asserted in LOADING and PARKED. -/
def stbyLevel (s : State) : Bool :=
  match s.power.state with
  | .loading | .parked => true
  | .unsupplied | .waking | .active | .closing => false

/-- R173: FAULT is asserted in ACTIVE and CLOSING while an unmasked kind is set. -/
def faultLevel (s : State) : Bool := linkRunning s && allKinds.any fun k => statusOf s.faults k && !masked s.cfg k

/-- R176: DUE is asserted in ACTIVE while a channel with a clear due mask has its due set mark set. -/
def dueLevel (s : State) : Bool :=
  isActive s && (List.finRange 24).any fun (c : Fin 24) => s.faults.dueSet[c] && !s.cfg.dueMasks.getLsbD c.val

/-- The output lines driven from the state. -/
def driveLines (s : State) : State :=
  s.setLines { s.lines with stby := stbyLevel s, fault := faultLevel s, due := dueLevel s }

/-- The end of every command: the lines are driven and the next state is answered. -/
def finish (s : State) : Host.Outcome State Fault Refusal := .next (driveLines s)

/-- A command whose event cannot occur in the present state (assumption log 1). -/
def noEvent (s : State) : Host.Outcome State Fault Refusal := .next s

end Sys2Proof.Machine
end

