-- ==== Sys2Proof/Machine/SpectrumUnits.lean ====
section
/-! DEFINITION. The spectrum units: classification, rescale, pending ticks, clear (R99 to R104). -/

namespace Sys2Proof.Machine

/-- Bin bx, by (R98). -/
def binIndex (bx by' : Nat) : Fin 64 := Fin.ofNat 64 (8 * bx + by')

/-- R99, R103: `n` more unclassified, and whether COUNTER_SAT is raised with the mark set. -/
def addUnclassified (n : Nat) (r : Spectrum) : Spectrum × Bool :=
  let u := satAdd max32 r.unclassified n
  let report := decide (u = max32) && !r.satReported
  ({ r with unclassified := u, satReported := r.satReported || report }, report)

/-- R101: every bin of the grid of (nx + 1) by (ny + 1) halved, the scale one higher. -/
def rescale (nx ny : Nat) (r : Spectrum) : Spectrum :=
  { r with
    bins := vecMap (fun (i : Fin 64) n => if i.val / 8 ≤ nx ∧ i.val % 8 ≤ ny then n / 2 else n) r.bins
    scale := r.scale + 1
    divider := 0 }

/-- One added to a bin that is not full. -/
def bumpBin (i : Fin 64) (r : Spectrum) : Spectrum := { r with bins := r.bins.set i (r.bins[i] + 1) }

/-- R100 to R102: one bin unit, and whether COUNTER_SAT is raised with the mark set. -/
def addBinUnit (nx ny : Nat) (i : Fin 64) (r : Spectrum) : Spectrum × Bool :=
  if r.bins[i] < max24 then (bumpBin i r, false)
  else if r.scale < 15 then (bumpBin i (rescale nx ny r), false)
  else ({ r with satReported := true }, !r.satReported)

/-- R100: a classified sample. -/
def classifySample (nx ny : Nat) (i : Fin 64) (r : Spectrum) : Spectrum × Bool :=
  if r.divider + 1 < 2 ^ r.scale then ({ r with divider := r.divider + 1 }, false)
  else addBinUnit nx ny i { r with divider := 0 }

/-- R99, R100: a spectrum sample at a unit. -/
def spectrumSample (cfg : RunConfig) (b : Board) (sc : SpecCfg) (r : Spectrum) : Spectrum × Bool :=
  match sc.axes with
  | none => addUnclassified 1 r
  | some (x, xt, y, yt) =>
    if usable b[x].state && usable b[y].state then
      classifySample (tableLimits cfg xt).length (tableLimits cfg yt).length
        (binIndex (bandOf (tableLimits cfg xt) b[x].value) (bandOf (tableLimits cfg yt) b[y].value)) r
    else addUnclassified 1 r

/-- A unit's record replaced, with COUNTER_SAT and the unit's item number when it is raised (R99, R102). -/
def commitSpectrum (u : Fin 4) (r : Spectrum × Bool) (s : State) : State :=
  let s1 := s.setSpectrum u r.1
  if r.2 then raise .counterSat (some (76 + u.val)) s1 else s1

/-- The channel owns an accepted unit (R96). -/
def ownedBy (cfg : RunConfig) (u : Fin 4) (c : Fin 24) : Option SpecCfg :=
  match cfg.spectra[u] with
  | none => none
  | some sc => if sc.owner = c then some sc else none

/-- What one unit takes from a channel's sample (R74, R99, R100, R103). -/
def takeSend (c : Fin 24) (send : SpectrumSend) (s : State) (u : Fin 4) : State :=
  match ownedBy s.cfg u c, send with
  | none, _ => s
  | some _, .nothing => s
  | some sc, .sample => commitSpectrum u (spectrumSample s.cfg s.cap.board sc s.spectra[u]) s
  | some sc, .qualified k =>
    let s1 := commitSpectrum u (addUnclassified k s.spectra[u]) s
    commitSpectrum u (spectrumSample s1.cfg s1.cap.board sc s1.spectra[u]) s1

/-- R74: what a channel's sample sends, at every unit that names it as owner. -/
def sendSpectrum (c : Fin 24) (send : SpectrumSend) (s : State) : State :=
  (List.finRange 4).foldl (takeSend c send) s

/-- R104: the clear of one unit at its owner's close-out. -/
def clearOwned (c : Fin 24) (s : State) (u : Fin 4) : State :=
  match ownedBy s.cfg u c with
  | none => s
  | some _ => s.setSpectrum u Spectrum.zero

/-- R74, R104: the clear of every unit a channel owns. -/
def clearSpectra (c : Fin 24) (s : State) : State := (List.finRange 4).foldl (clearOwned c) s

end Sys2Proof.Machine
end

