-- ==== Sys2Proof/Machine/Components.lean ====
section
/-! DEFINITION. The component table: tally events, the close, identity confirmation, deferred closes (R80,
R91, R92, R110 to R119). -/

namespace Sys2Proof.Machine

/-! ### Tally events -/

/-- The tally events of R80. -/
inductive TallyEvent where
  | attempt
  | start (cold : Bool)
  | failed
  | unresolved
  | stall
  | engage
  | crankTick
  | overCrank
  | hotCrank
  deriving DecidableEq, Repr

/-- R80: what a tally event does to the engine tallies; starter events leave them. -/
def addEngineTally (ev : TallyEvent) (t : EngineTallies) : EngineTallies :=
  match ev with
  | .attempt => { t with attempts := satAdd max32 t.attempts 1, openMark := true }
  | .start cold =>
    { t with starts := satAdd max32 t.starts 1, cold := satAdd max32 t.cold (markBit cold 1), openMark := false }
  | .failed => { t with failed := satAdd max32 t.failed 1, openMark := false }
  | .unresolved => { t with unresolved := satAdd max32 t.unresolved 1, openMark := false }
  | .stall => { t with stalls := satAdd max32 t.stalls 1 }
  | .engage | .crankTick | .overCrank | .hotCrank => t

/-- R80: what a tally event does to the starter tallies; engine events leave them. -/
def addStarterTally (ev : TallyEvent) (t : StarterTallies) : StarterTallies :=
  match ev with
  | .engage => { t with engagements := satAdd max32 t.engagements 1 }
  | .crankTick => { t with crankTicks := satAdd max32 t.crankTicks 1 }
  | .overCrank => { t with overCranks := satAdd max32 t.overCranks 1 }
  | .hotCrank => { t with hotCranks := satAdd max32 t.hotCranks 1 }
  | .attempt | .start _ | .failed | .unresolved | .stall => t

/-- The slot a tally event names (R80): the engine slot, or the accepted starter slot if there is one. -/
def tallySlot (sc : StartCfg) : TallyEvent → Option (Fin 12)
  | .attempt | .start _ | .failed | .unresolved | .stall => some sc.engine
  | .engage | .crankTick | .overCrank | .hotCrank => sc.starter

/-- A tally event at a record's tallies. -/
def addTally (ev : TallyEvent) : Tallies → Tallies
  | .none => .none
  | .engine t => .engine (addEngineTally ev t)
  | .starter t => .starter (addStarterTally ev t)

/-- R80, R110: a tally event at the component table. -/
def tally (sc : StartCfg) (ev : TallyEvent) (s : State) : State :=
  match tallySlot sc ev with
  | none => s
  | some i => s.setSlot i { s.comps.slots[i] with tallies := addTally ev s.comps.slots[i].tallies }

/-! ### The close -/

/-- R110: the channels accepted for a slot, in channel order. -/
def boundChannels (cfg : RunConfig) (i : Fin 12) : List (Fin 24) :=
  (List.finRange 24).filter fun (c : Fin 24) =>
    match cfg.channels[c] with
    | none => false
    | some cc => decide (cc.slot = i)

/-- The channel record of an entry (R116). -/
def entryChan (s : State) (c : Fin 24) : EntryChan :=
  let ch := s.chans[c]
  { number := some c, hours := ch.hours, estHours := ch.estHours, wear := ch.wear, episodes := ch.episodes,
    revs := ch.revs }

/-- R116: the single record of a slot without bound channels. -/
def noChan : EntryChan := { number := none, hours := 0, estHours := 0, wear := 0, episodes := 0, revs := 0 }

/-- R116: a list of channel records, or the single record whose number is NONE. -/
def chanList : List EntryChan → List EntryChan
  | [] => [noChan]
  | c :: r => c :: r

/-- R91: the tallies an entry carries: an open attempt counted unresolved. -/
def entryTallies : Tallies → Tallies
  | .none => .none
  | .engine t =>
    .engine { t with unresolved := satAdd max32 t.unresolved (markBit t.openMark 1), openMark := false }
  | .starter t => .starter t

/-- R91, R117 step 5: the tallies of the new record. -/
def successorTallies : Tallies → Tallies
  | .none => .none
  | .engine t =>
    .engine { EngineTallies.zero with attempts := markBit t.openMark 1, openMark := t.openMark }
  | .starter _ => .starter StarterTallies.zero

/-- R115: the conditions under which a close can be made. -/
def canClose (s : State) : Bool := decide (s.comps.queue.length < 4) && decide (s.comps.nextSeq < max32)

/-- R116: the history entry of the outgoing component. -/
def closingEntry (s : State) (i : Fin 12) (cls : Class) (reason : Reason) : HistEntry :=
  let r := s.comps.slots[i]
  { seq := s.comps.nextSeq, slot := i, cls := cls, identity := r.identity, generation := r.generation,
    install := r.install, closeKey := s.power.keyCycles, reason := reason,
    chans := chanList ((boundChannels s.cfg i).map (entryChan s)), tallies := entryTallies r.tallies }

/-- R73, R104, R117 step 1: the close-out of one bound channel and the clear of its spectrum units. -/
def closeOut (s : State) (c : Fin 24) : State :=
  let abandoned := s.chans[c].staged.isSome
  let s1 := s.setChan c (closeOutChannel s.chans[c])
  let s2 := s1.setFaults { s1.faults with dueSet := s1.faults.dueSet.set c false }
  let s3 := if abandoned then raise .presetAbandoned (some c.val) s2 else s2
  clearSpectra c s3

/-- R117 steps 2 to 5: the record after a close; `identity` is the identity afterwards. -/
def successorRecord (cfg : RunConfig) (i : Fin 12) (keyCycles : Nat) (identity : Option Nat) (r : Component) : Component :=
  { state := if identity.isNone && cfg.identity[i].isSome then .unidentified else .present
    identity := identity
    candidate := none
    confirm := 0
    generation := satAdd max16 r.generation 1
    install := keyCycles
    tallies := successorTallies r.tallies }

/-- R92: a close of the engine slot at the start unit. -/
def startUnitClose (i : Fin 12) (s : State) : State :=
  match s.cfg.start with
  | none => s
  | some sc =>
    if sc.engine = i ∧ s.start.state = .running then s.setStart { s.start with stallRunning := false } else s

/-- The reason code (Table 12-2). -/
def reasonCode : Reason → Nat
  | .identityChange => 0
  | .serviceClose => 1
  | .serviceIdentity => 2
  | .layoutChange => 3

/-- R196: a COMPONENT notice. -/
def componentNotice (cfg : RunConfig) (i : Fin 12) (reason : Reason) (generation seq : Nat) : TxFrame :=
  formFrame cfg .notice .notice
    ([2, BitVec.ofNat 8 (i.val + 16 * reasonCode reason)] ++ leBytes 2 generation ++ leBytes 4 seq)

/-- R117 step 8, R186: bus traffic told of a close, while the link controller runs. -/
def noticeClose (i : Fin 12) (reason : Reason) (generation seq : Nat) (s : State) : State :=
  if linkRunning s then queueFrame (componentNotice s.cfg i reason generation seq) s else s

/-- R117 steps 6 and 7: the entry queued, the next sequence one higher, a normal request raised. -/
def appendEntry (e : HistEntry) (s : State) : State :=
  requestNormal (s.setComps { s.comps with queue := s.comps.queue ++ [e], nextSeq := s.comps.nextSeq + 1 })

/-- R116, R117: the whole close of a configured slot of class `cls`; `identity` is the identity afterwards. -/
def closeSlot (i : Fin 12) (cls : Class) (reason : Reason) (identity : Option Nat) (s : State) : State :=
  let e := closingEntry s i cls reason
  let s1 := (boundChannels s.cfg i).foldl closeOut s
  let r := successorRecord s1.cfg i s1.power.keyCycles identity s1.comps.slots[i]
  let s2 := startUnitClose i (s1.setSlot i r)
  noticeClose i reason r.generation e.seq (appendEntry e s2)

/-! ### Identity confirmation -/

/-- R113 case 3: the close with reason IDENTITY_CHANGE attempted, or deferred with confirm count 3. -/
def attemptIdentityClose (i : Fin 12) (cls : Class) (s : State) : State :=
  if canClose s then closeSlot i cls .identityChange s.comps.slots[i].candidate s
  else s.setSlot i { s.comps.slots[i] with confirm := 3 }

/-- R111 to R113: an identity field at a configured slot. -/
def identityField (i : Fin 12) (cls : Class) (v : Nat) (s : State) : State :=
  let r := s.comps.slots[i]
  if v = 0xFFFFFFFF then s
  else
    match r.state with
    | .unidentified => s.setSlot i { r with state := .present, identity := some v }
    | .present =>
      if r.identity = some v then s
      else s.setSlot i { r with state := .candidate, candidate := some v, confirm := 1 }
    | .candidate =>
      if r.identity = some v then s.setSlot i { r with state := .present, candidate := none, confirm := 0 }
      else if r.candidate = some v then
        if r.confirm = 1 then s.setSlot i { r with confirm := 2 } else attemptIdentityClose i cls s
      else s.setSlot i { r with candidate := some v, confirm := 1 }

/-- A slot whose identity close is deferred (R113, R114). -/
def closeDeferred (r : Component) : Bool := decide (r.state = .candidate) && decide (r.confirm = 3)

/-- R114: deferred closes retried in slot order until one cannot be made. -/
def retrySlots : List (Fin 12) → State → State
  | [], s => s
  | i :: rest, s =>
    match s.cfg.classes[i] with
    | none => retrySlots rest s
    | some cls =>
      if closeDeferred s.comps.slots[i] then
        if canClose s then retrySlots rest (closeSlot i cls .identityChange s.comps.slots[i].candidate s) else s
      else retrySlots rest s

/-- R114: the retry at a departure from the history write queue. -/
def retryDeferred (s : State) : State := retrySlots (List.finRange 12) s

end Sys2Proof.Machine
end

