-- ==== Sys2Proof/Machine/StartAccounting.lean ====
section
/-! DEFINITION. The start unit: crank indication, board changes, tick steps, attempts left open (R81 to R90). -/

namespace Sys2Proof.Machine

/-- R81: crank indication. -/
def crankIndication (b : Board) : Bool :=
  (usable b[sKeyState].state && decide (b[sKeyState].value = 3)) ||
    (usable b[sStarterEngaged].state && decide (b[sStarterEngaged].value = 1))

/-- R83: the temperature class from COOLANT_TEMP. -/
def temperatureClass (sc : StartCfg) (b : Board) : TempClass :=
  if usable b[sCoolantTemp].state then
    if b[sCoolantTemp].value < sc.cold then .cold else .warm
  else .unknown

/-- The engine record's crank attempts (R83). -/
def crankAttempts (sc : StartCfg) (s : State) : Nat :=
  match s.comps.slots[sc.engine].tallies with
  | .engine t => t.attempts
  | .none | .starter _ => 0

/-- R83, R87: an attempt opened, or ENGAGE alone with the unit OFF when crank attempts are at their maximum. -/
def openAttempt (sc : StartCfg) (s : State) : State :=
  if crankAttempts sc s < max32 then
    let s1 := tally sc .engage (tally sc .attempt s)
    s1.setStart
      { s1.start with
        state := .cranking, temp := temperatureClass sc s1.cap.board, crankTicks := 0, overCrank := false }
  else
    let s1 := tally sc .engage s
    s1.setStart { s1.start with state := .off }

/-- R86, R87: a start counted and RUNNING entered, with the stall timer started when the window is above 0. -/
def enterRunning (sc : StartCfg) (s : State) : State :=
  let s1 := tally sc (.start (decide (s.start.temp = .cold))) s
  if 0 < sc.stall then
    s1.setStart { s1.start with state := .running, stop := 0, stallRunning := true, stallCount := 0 }
  else s1.setStart { s1.start with state := .running, stop := 0 }

/-- FAILED handed and OFF entered (R84, R86, R87). -/
def failAttempt (sc : StartCfg) (s : State) : State :=
  let s1 := tally sc .failed s
  s1.setStart { s1.start with state := .off }

/-- ENGINE_SPEED against the run threshold: not usable, below, or at or above. -/
inductive SpeedReading where
  | notUsable
  | below
  | atOrAbove
  deriving DecidableEq, Repr

/-- ENGINE_SPEED on the board against a threshold. -/
def readSpeed (b : Board) (threshold : Nat) : SpeedReading :=
  if usable b[sEngineSpeed].state then
    if b[sEngineSpeed].value < (threshold : Int) then .below else .atOrAbove
  else .notUsable

/-- R84: the end of a cranking. -/
def endCranking (sc : StartCfg) (s : State) : State :=
  match readSpeed s.cap.board sc.run with
  | .atOrAbove => s.setStart { s.start with state := .confirming, confirm := 0 }
  | .below => failAttempt sc s
  | .notUsable => s.setStart { s.start with state := .unverified }

/-- R86: a board change in CONFIRMING. -/
def boardConfirming (sc : StartCfg) (comesOn : Bool) (s : State) : State :=
  if comesOn then
    let s1 := tally sc .engage s
    s1.setStart { s1.start with state := .cranking, confirm := 0 }
  else
    match readSpeed s.cap.board sc.run with
    | .notUsable => s.setStart { s.start with state := .unverified, confirm := 0 }
    | .below => failAttempt sc s
    | .atOrAbove => s

/-- R87: a board change in UNVERIFIED. -/
def boardUnverified (sc : StartCfg) (comesOn : Bool) (s : State) : State :=
  if comesOn then openAttempt sc (tally sc .unresolved s)
  else
    match readSpeed s.cap.board sc.run with
    | .atOrAbove => enterRunning sc s
    | .below => failAttempt sc s
    | .notUsable => s

/-- R82 to R88: a board change at a start unit in use, with one evaluation of crank indication. -/
def boardChange (sc : StartCfg) (s : State) : State :=
  let on := crankIndication s.cap.board
  let comesOn := on && !s.start.lastCrank
  let goesOff := !on && s.start.lastCrank
  let s1 := s.setStart { s.start with lastCrank := on }
  match s.start.state with
  | .off => if comesOn then openAttempt sc s1 else s1
  | .cranking => if goesOff then endCranking sc s1 else s1
  | .confirming => boardConfirming sc comesOn s1
  | .unverified => boardUnverified sc comesOn s1
  | .running => if comesOn then tally sc .engage (tally sc .hotCrank s1) else s1

/-- R82: a board change reaches a unit in use while the part is ACTIVE. -/
def startBoardChange (s : State) : State :=
  match s.cfg.start with
  | none => s
  | some sc => if isActive s then boardChange sc s else s

/-- R94: the evaluation of crank indication at an ACTIVE entry, the last indication set to off first. -/
def startActiveEntry (s : State) : State := startBoardChange (s.setStart { s.start with lastCrank := false })

/-- R85: a tick step in CRANKING. -/
def tickCranking (sc : StartCfg) (s : State) : State :=
  let n := satAdd max16 s.start.crankTicks 1
  let s1 := tally sc .crankTick (s.setStart { s.start with crankTicks := n })
  if n = sc.crankLimit ∧ s1.start.overCrank = false then
    tally sc .overCrank (s1.setStart { s1.start with overCrank := true })
  else s1

/-- R86: a tick step in CONFIRMING. -/
def tickConfirming (sc : StartCfg) (s : State) : State :=
  let n := s.start.confirm + 1
  let s1 := s.setStart { s.start with confirm := n }
  if n < sc.confirm then s1 else enterRunning sc s1

/-- R88: the end of a run at the stop test. -/
def endRun (sc : StartCfg) (s : State) : State :=
  let s1 := if s.start.stallRunning then tally sc .stall s else s
  s1.setStart { s1.start with state := .off, stallRunning := false }

/-- R88: the stop test of a tick step in RUNNING. -/
def stopTest (sc : StartCfg) (s : State) : State :=
  match readSpeed s.cap.board sc.stop with
  | .below =>
    let n := s.start.stop + 1
    let s1 := s.setStart { s.start with stop := n }
    if n < sc.stopTicks then s1 else endRun sc s1
  | .atOrAbove => s.setStart { s.start with stop := 0 }
  | .notUsable => s

/-- R89: the stall timer's count after the stop test, and its stop at the stall window. -/
def advanceStall (sc : StartCfg) (s : State) : State :=
  if s.start.stallRunning then
    let n := s.start.stallCount + 1
    s.setStart { s.start with stallCount := n, stallRunning := decide (n < sc.stall) }
  else s

/-- R82: a tick step of a unit in use. -/
def tickStep (sc : StartCfg) (s : State) : State :=
  match s.start.state with
  | .off => s
  | .cranking => tickCranking sc s
  | .confirming => tickConfirming sc s
  | .unverified => s
  | .running => advanceStall sc (stopTest sc s)

/-- R90: the state OFF with confirm and stop counts 0 and the stall timer stopped; the timer's count stays
(assumption log 22). -/
def quietStart (s : State) : State :=
  s.setStart { s.start with state := .off, confirm := 0, stop := 0, stallRunning := false }

/-- R90: an attempt left open is ended as unresolved. -/
def endAttempt (s : State) : State :=
  match s.cfg.start with
  | none => s
  | some sc =>
    match s.start.state with
    | .cranking | .confirming | .unverified => quietStart (tally sc .unresolved s)
    | .off | .running => quietStart s

end Sys2Proof.Machine
end

