-- ==== Sys2Proof/Machine/SignalCapture.lean ====
section
/-! DEFINITION. Signal capture: fields, source states, active sources, the board, CLUTCH_SLIP, signal
changes and their receivers, key cycles (R6 to R22, R165, R170, R171, R185). -/

namespace Sys2Proof.Machine

/-! ### Fields -/

/-- R6: the bytes a field occupies. -/
def fieldBytes (e : MapEntry) : Nat := (e.bitOffset + e.len + 7) / 8

/-- R7: the raw field of a frame's data. -/
def rawField (e : MapEntry) (data : List Byte) : Nat :=
  let bytes := (data.drop e.start).take (fieldBytes e)
  bitField (if e.bigEndian then beNat bytes else leNat bytes) e.bitOffset e.len

/-- What a field says (R8). -/
inductive FieldSays where
  | noFit
  | notAvailable
  | error
  | good (value : Int)
  deriving DecidableEq, Repr

/-- R8: the good value of a raw field. -/
def fieldValue (e : MapEntry) (r : Nat) : Int :=
  clampInt (sigLow e.target) (sigHigh e.target) (e.offset + ((r * e.gain / 2 ^ e.shift : Nat) : Int))

/-- R8: the classification of a field. -/
def decodeField (e : MapEntry) (data : List Byte) : FieldSays :=
  if data.length < e.start + fieldBytes e then .noFit
  else if 4 ≤ e.len ∧ rawField e data = 2 ^ e.len - 1 then .notAvailable
  else if 4 ≤ e.len ∧ rawField e data = 2 ^ e.len - 2 then .error
  else .good (fieldValue e (rawField e data))

/-! ### Sources -/

/-- R10, R13: a good field or a refresh. -/
def refreshSource (v : Int) (x : Source) : Source :=
  { x with state := .fresh, value := v, timeout := some 0, hold := none }

/-- R10: a coded field, which stops both timers. -/
def codedSource (st : SigState) (x : Source) : Source := { x with state := st, timeout := none, hold := none }

/-- R19: a matching frame counted. -/
def countFrame (x : Source) : Source := { x with frames := satAdd max16 x.frames 1, since := 0 }

/-- R10: a decoded field at a source. -/
def takeField (f : FieldSays) (x : Source) : Source :=
  match f with
  | .noFit => x
  | .notAvailable => codedSource .unavailable x
  | .error => codedSource .faulted x
  | .good v => refreshSource v x

/-- R9: UNKNOWN with value 0 and both timers stopped; the presence record stays. -/
def unknownSource (x : Source) : Source := { x with state := .unknown, value := 0, timeout := none, hold := none }

/-- What reselection and ageing need of a source's items. -/
structure SrcItems where
  target  : Sig
  prio    : Nat
  timeout : Nat
  hold    : Nat
  deriving DecidableEq, Repr

/-- The items of a pulse unit as a source (R13), if it has one. -/
def pulseItems (p : PulseCfg) : Option SrcItems :=
  match p.status with
  | .hasSource => some { target := p.target, prio := p.prio, timeout := p.timeout, hold := p.hold }
  | .notInUse | .unitRejected | .noSource | .sourceRejected => none

/-- R15: the items of a valid source by its number; the IGN source has no timers (R14). -/
def srcItems (cfg : RunConfig) (i : Src) : Option SrcItems :=
  if h : i.val < 24 then
    (cfg.entries[i.val]'h).map fun e => { target := e.target, prio := e.prio, timeout := e.timeout, hold := e.hold }
  else if i.val = 24 then pulseItems cfg.pulseA
  else if i.val = 25 then pulseItems cfg.pulseB
  else cfg.ignPrio.map fun p => { target := sKeyState, prio := p, timeout := 0, hold := 0 }

/-- Source numbers in configuration order. -/
def allSources : List Src := List.finRange 27

/-- The sources of a signal with their priorities (R15). -/
def sourcesOf (cfg : RunConfig) (i : Sig) : List (Src × Nat) :=
  allSources.filterMap fun x =>
    match srcItems cfg x with
    | none => none
    | some it => if it.target = i then some (x, it.prio) else none

/-- R16: the most preferred source of a list, the lowest priority number. -/
def mostPreferred : List (Src × Nat) → Option (Src × Nat)
  | [] => none
  | p :: r =>
    match mostPreferred r with
    | none => some p
    | some q => if p.2 ≤ q.2 then some p else some q

/-- R16: the active source of a signal. -/
def activeSource (cfg : RunConfig) (xs : Vector Source 27) (i : Sig) : Option Src :=
  let all := sourcesOf cfg i
  let inState (st : SigState) := mostPreferred (all.filter fun p => decide (xs[p.1].state = st))
  match inState .fresh with
  | some p => some p.1
  | none =>
    match inState .held with
    | some p => some p.1
    | none => (mostPreferred all).map (·.1)

/-- R17: a signal with its active source chosen. -/
def selectSignal (cfg : RunConfig) (xs : Vector Source 27) (i : Sig) : BoardSig :=
  match activeSource cfg xs i with
  | none => BoardSig.absent
  | some x => { value := xs[x].value, state := xs[x].state, active := some x }

/-- R18: the state of CLUTCH_SLIP from the states of its inputs. -/
def slipState (a b : SigState) : SigState :=
  if usable a && usable b then
    if a = .held ∨ b = .held then .held else .fresh
  else if a = .stale ∨ b = .stale then .stale
  else if a = .unavailable ∨ b = .unavailable then .unavailable
  else if a = .faulted ∨ b = .faulted then .faulted
  else .unknown

/-- R18: CLUTCH_SLIP from ENGINE_SPEED and INPUT_SHAFT_SPEED. -/
def clutchSlip (e i : BoardSig) : BoardSig :=
  if e.state = .absent ∨ i.state = .absent then BoardSig.absent
  else { value := max 0 (e.value - i.value), state := slipState e.state i.state, active := none }

/-- R17: a change of value or state. -/
def signalChanged (a b : BoardSig) : Bool := decide (a.value ≠ b.value) || decide (a.state ≠ b.state)

/-- R16: each listed signal reselected; CLUTCH_SLIP has no sources. -/
def reselect (cfg : RunConfig) (xs : Vector Source 27) (touched : List Sig) (b : Board) : Board :=
  vecMap (fun i old => if i ≠ sClutchSlip ∧ i ∈ touched then selectSignal cfg xs i else old) b

/-- R18: CLUTCH_SLIP recomputed at the end of an event that changed an input. -/
def recomputeSlip (old b : Board) : Board :=
  if signalChanged old[sEngineSpeed] b[sEngineSpeed] || signalChanged old[sInputShaftSpeed] b[sInputShaftSpeed] then
    b.set sClutchSlip (clutchSlip b[sEngineSpeed] b[sInputShaftSpeed])
  else b

/-- The board after an event at signal capture that touched sources of the listed signals. -/
def boardAfter (cfg : RunConfig) (xs : Vector Source 27) (touched : List Sig) (old : Board) : Board :=
  recomputeSlip old (reselect cfg xs touched old)

/-! ### Used signals and SIG_STALE -/

/-- A signal tested by an accepted channel's gate, map or factor table (R171). -/
def channelUses (cfg : RunConfig) (cc : ChanCfg) (i : Sig) : Bool :=
  decide (cc.term1.signal = i) ||
    (match cc.term2 with | none => false | some t => decide (t.signal = i)) ||
    (match cc.weight with
      | .constant _ => false
      | .map m =>
        match cfg.maps[m] with
        | .absent | .degraded _ => false
        | .valid x _ y _ _ _ => decide (x = i) || decide (y = i)) ||
    (match cc.factor with
      | none => false
      | some t =>
        match cfg.factors[t] with
        | .absent | .degraded => false
        | .valid sig _ _ => decide (sig = i))

/-- R171: a used signal. -/
def usedSignal (cfg : RunConfig) (i : Sig) : Bool :=
  (cfg.channels.toList.any fun o => match o with | none => false | some cc => channelUses cfg cc i) ||
    (cfg.start.isSome && decide (i ∈ [sEngineSpeed, sCoolantTemp, sKeyState, sStarterEngaged])) ||
    (cfg.spectra.toList.any fun o =>
      match o with
      | none => false
      | some sc =>
        match sc.axes with
        | none => false
        | some (x, _, y, _) => decide (x = i) || decide (y = i))

/-- R170: the presence of SIG_STALE on a board: the lowest used signal that is STALE. -/
def stalePresence (cfg : RunConfig) (b : Board) : Presence :=
  match (List.finRange 14).find? fun (i : Sig) => usedSignal cfg i && decide (b[i].state = .stale) with
  | none => none
  | some i => some (some i.val)

/-- The used signals that enter STALE between two boards, in ascending order. -/
def enteringStale (cfg : RunConfig) (old new : Board) : List Nat :=
  ((List.finRange 14).filter fun (i : Sig) =>
    usedSignal cfg i && decide (old[i].state ≠ .stale) && decide (new[i].state = .stale)).map (·.val)

/-- R170, R171: the fault unit told of the changes by which signals enter or leave STALE. -/
def tellStale (old new : Board) (s : State) : State :=
  raiseEach .sigStale (enteringStale s.cfg old new)
    (s.setFaults { s.faults with sigStale := stalePresence s.cfg new })

/-! ### Key cycles -/

/-- R185: the enabled channels whose due flags are set, in channel order. -/
def dueChannels (s : State) : List (Fin 24) :=
  (List.finRange 24).filter fun (c : Fin 24) => s.cfg.channels[c].isSome && s.chans[c].due

/-- R185: one notice fed from the key-cycle notice list: channels whose flag has cleared are passed over,
and the first whose flag is set gets its notice. The list argument bounds the recursion. -/
def feedOneKey : List (Fin 24) → State → State
  | [], s => s.setBus { s.bus with keyList := [] }
  | c :: r, s =>
    let s1 := s.setBus { s.bus with keyList := r }
    match s.cfg.channels[c] with
    | none => feedOneKey r s1
    | some cc =>
      if s.chans[c].due then
        offerHead (s1.setBus (placeFrame (dueNotice s1 c cc 1) s1.bus))
      else feedOneKey r s1

/-- R185: the list tried once: while it is not empty and the queue holds 5 frames or fewer. -/
def tryKeyList (s : State) : State :=
  if s.bus.queue.length ≤ 5 then feedOneKey s.bus.keyList s else s

/-- The list tried as often as it can feed; each try that does not empty it queues a frame. -/
def feedKeyList : Nat → State → State
  | 0, s => s
  | n + 1, s => if s.bus.keyList.isEmpty || decide (5 < s.bus.queue.length) then s else feedKeyList n (tryKeyList s)

/-- R185: a new key cycle at bus traffic: the list latched and tried. -/
def newKeyCycle (s : State) : State := feedKeyList 6 (s.setBus { s.bus with keyList := dueChannels s })

/-- R165: the key-cycle test at a KEY_STATE signal change, in ACTIVE and CLOSING. -/
def keyStateChange (s : State) : State :=
  let k := s.cap.board[sKeyState]
  if !linkRunning s || !usable k.state then s
  else if k.value = 2 ∨ k.value = 3 then
    if s.power.keyOpen then s
    else
      newKeyCycle
        (s.setPower { s.power with keyOpen := true, keyCycles := satAdd max32 s.power.keyCycles 1 })
  else if k.value = 0 then s.setPower { s.power with keyOpen := false }
  else s

/-! ### Events at signal capture -/

/-- R17: the changes between two boards that the start unit takes. -/
def startSees (old new : Board) : Bool :=
  let changed (i : Sig) := signalChanged old[i] new[i]
  changed sEngineSpeed || changed sCoolantTemp || changed sKeyState || changed sStarterEngaged

/-- R17: the changes between two boards delivered to power control and then to the fault unit. -/
def tellRest (old new : Board) (s : State) : State :=
  tellStale old new (if signalChanged old[sKeyState] new[sKeyState] then keyStateChange s else s)

/-- R17: the signal changes between two boards delivered to the start unit, power control and the fault
unit, in the order of the table of R17 (assumption log 14). -/
def deliver (old new : Board) (s : State) : State :=
  tellRest old new (if startSees old new then startBoardChange s else s)

/-- An event at signal capture: sources replaced, touched signals reselected, CLUTCH_SLIP recomputed,
changes delivered (R3, R12, R14, R28). -/
def captureEvent (xs : Vector Source 27) (touched : List Sig) (s : State) : State :=
  let old := s.cap.board
  let new := boardAfter s.cfg xs touched old
  deliver old new (s.setCap { s.cap with sources := xs, board := new })

/-- R13, R28: the refresh of a pulse unit's source. -/
def refreshPulse (u : PulseId) (v : Int) (s : State) : State :=
  match pulseItems (pulseCfg s.cfg u) with
  | none => s
  | some it =>
    let i := pulseSrc u
    captureEvent (s.cap.sources.set i (refreshSource v s.cap.sources[i])) [it.target] s

/-- R14: the sources with the IGN source FRESH with the line's value, where the part has an IGN source. -/
def ignSources (s : State) : Vector Source 27 :=
  match s.cfg.ignPrio with
  | none => s.cap.sources
  | some _ =>
    s.cap.sources.set (26 : Src)
      { s.cap.sources[(26 : Src)] with
        state := .fresh, value := if s.lines.ign then 2 else 0, timeout := none, hold := none }

/-- R14: the IGN source FRESH with the line's value, where the part has an IGN source. -/
def ignFresh (s : State) : State :=
  match s.cfg.ignPrio with
  | none => s
  | some _ => captureEvent (ignSources s) [sKeyState] s

/-- R14, R94, R159: an ACTIVE entry at signal capture. The IGN source becomes FRESH; the start unit sets the last crank
indication to off and evaluates crank indication once from the board that follows; KEY_STATE's change then reaches
power control and the fault unit. -/
def enterSignals (s : State) : State :=
  match s.cfg.ignPrio with
  | none => startActiveEntry s
  | some _ =>
    let old := s.cap.board
    let new := boardAfter s.cfg (ignSources s) [sKeyState] old
    tellRest old new (startActiveEntry (s.setCap { s.cap with sources := ignSources s, board := new }))

/-- R14, R22: the IGN source UNKNOWN with value 0 at PARKED entry; KEY_STATE follows under R16 (assumption log 16). -/
def ignUnknown (s : State) : State :=
  match s.cfg.ignPrio with
  | none => s
  | some _ =>
    captureEvent (s.cap.sources.set (26 : Src) (unknownSource s.cap.sources[(26 : Src)])) [sKeyState] s

/-- The board with every source UNKNOWN (R20): every signal reselected and CLUTCH_SLIP derived. -/
def freshBoard (cfg : RunConfig) (xs : Vector Source 27) : Board :=
  let b : Board := Vector.ofFn fun i => selectSignal cfg xs i
  b.set sClutchSlip (clutchSlip b[sEngineSpeed] b[sInputShaftSpeed])

/-- R21, R22: every source UNKNOWN, the board recomputed, the fault unit told of what left STALE. -/
def forgetSources (s : State) : State :=
  let xs := vecMap (fun _ x => unknownSource x) s.cap.sources
  let new := freshBoard s.cfg xs
  tellStale s.cap.board new (s.setCap { s.cap with sources := xs, board := new })

/-- R22: the source timers stopped at PARKED entry. -/
def stopTimers (s : State) : State :=
  s.setCap { s.cap with sources := vecMap (fun _ x => { x with timeout := none, hold := none }) s.cap.sources }

/-- The receive queue emptied without a fault (R21, R22). -/
def emptyReceive (s : State) : State := s.setCap { s.cap with rx := [] }

/-! ### Ageing -/

/-- R11, R12: one tick counted by a source's running timer, which waits at its limit (assumption log 3). -/
def ageSource (it : SrcItems) (x : Source) : Source :=
  { x with
    timeout := x.timeout.map fun n => min it.timeout (n + 1)
    hold := x.hold.map fun n => min it.hold (n + 1) }

/-- R11: a source whose running timer has reached its limit. -/
def expiring (it : SrcItems) (x : Source) : Bool :=
  match x.timeout with
  | some n => decide (it.timeout ≤ n)
  | none =>
    match x.hold with
    | some n => decide (it.hold ≤ n)
    | none => false

/-- R11: the expiry of a source's timer. -/
def expireSource (it : SrcItems) (x : Source) : Source :=
  match x.timeout with
  | some _ =>
    if 0 < it.hold then { x with state := .held, timeout := none, hold := some 0 }
    else { x with state := .stale, timeout := none, hold := none }
  | none => { x with state := .stale, timeout := none, hold := none }

/-- The IGN source has no timers (R14). -/
def hasTimers (i : Src) : Bool := decide (i.val < 26)

/-- The items of a source that ages. -/
def ageItems (cfg : RunConfig) (i : Src) : Option SrcItems := if hasTimers i then srcItems cfg i else none

/-- One tick at every source (R12). -/
def ageSources (cfg : RunConfig) (xs : Vector Source 27) : Vector Source 27 :=
  vecMap (fun i x => match ageItems cfg i with | none => x | some it => ageSource it x) xs

/-- R12: the expiries of one tick at every source. -/
def expireSources (cfg : RunConfig) (xs : Vector Source 27) : Vector Source 27 :=
  vecMap (fun i x =>
    match ageItems cfg i with
    | none => x
    | some it => if expiring it x then expireSource it x else x) xs

/-- The signals of the sources that expire at this tick. -/
def expiringSignals (cfg : RunConfig) (xs : Vector Source 27) : List Sig :=
  allSources.filterMap fun i =>
    match ageItems cfg i with
    | none => none
    | some it => if expiring it xs[i] then some it.target else none

/-- R19: ticks-since-frame of a valid map entry one higher. -/
def agePresence (cfg : RunConfig) (xs : Vector Source 27) : Vector Source 27 :=
  vecMap (fun (i : Src) x =>
    if i.val < 24 ∧ (srcItems cfg i).isSome then { x with since := satAdd max16 x.since 1 } else x) xs

end Sys2Proof.Machine
end

