-- ==== Sys2Proof/Machine/Operands.lean ====
section
/-! DEFINITION. The operands of requests and the codes of Chapter 12: parameters, results, enumerated values
(R188, R194, R195, Table 12-2). -/

namespace Sys2Proof.Machine

/-! ### Requests -/

/-- The number of parameter bytes of a request code, the code byte not counted (R195). -/
def paramLength : Nat → Nat
  | 1 => 2
  | 2 => 1
  | 3 => 1
  | 4 => 2
  | 5 => 1
  | 6 => 0
  | 7 => 2
  | 8 => 2
  | 9 => 6
  | 10 => 1
  | 11 => 5
  | 12 => 0
  | 13 => 0
  | 14 => 6
  | _ => 0

/-- A one-byte parameter. -/
def param8 (params : List Byte) (i : Nat) : Nat := (byteAt params i).toNat

/-- A two-byte parameter. -/
def param16 (params : List Byte) (i : Nat) : Nat := leNat ((params.drop i).take 2)

/-- A four-byte parameter. -/
def param32 (params : List Byte) (i : Nat) : Nat := leNat ((params.drop i).take 4)

/-- Results of R195. -/
inductive Result where
  | done
  | accepted
  | busy
  | noSuch
  | badRequest
  | refusedMotion
  | queueFull
  | fallback
  deriving DecidableEq, Repr

/-- Result codes (R195). -/
def resultCode : Result → Byte
  | .done => 0
  | .accepted => 1
  | .busy => 2
  | .noSuch => 3
  | .badRequest => 4
  | .refusedMotion => 5
  | .queueFull => 6
  | .fallback => 7

/-! ### Enumerated values (Table 12-2) -/

/-- Signal or source state. -/
def sigStateCode : SigState → Byte
  | .unknown => 0
  | .fresh => 1
  | .held => 2
  | .stale => 3
  | .unavailable => 4
  | .faulted => 5
  | .absent => 6

/-- Channel state. -/
def chanStateCode : ChanState → Byte
  | .disabled => 0
  | .idle => 1
  | .qualifying => 2
  | .running => 3
  | .lingering => 4

/-- Preset quantity. -/
def quantityCode : Quantity → Byte
  | .hours => 1
  | .wear => 2
  | .episodes => 3
  | .revolutions => 4

/-- The quantity a PRESET CHANNEL names. -/
def quantityNamed : Nat → Option Quantity
  | 1 => some .hours
  | 2 => some .wear
  | 3 => some .episodes
  | 4 => some .revolutions
  | _ => none

/-- Class. -/
def classCode : Class → Byte
  | .engine => 0
  | .starter => 1
  | .clutch => 2
  | .gearbox => 3
  | .retarder => 4
  | .propshaft => 5
  | .axle => 6
  | .transfer => 7
  | .pto => 8

/-- The class a code names. -/
def classNamed : Nat → Option Class
  | 0 => some .engine
  | 1 => some .starter
  | 2 => some .clutch
  | 3 => some .gearbox
  | 4 => some .retarder
  | 5 => some .propshaft
  | 6 => some .axle
  | 7 => some .transfer
  | 8 => some .pto
  | _ => none

/-- Component state. -/
def compStateCode : CompState → Byte
  | .unidentified => 0
  | .present => 1
  | .candidate => 2

/-- Tallies carried. -/
def talliesCode : Tallies → Nat
  | .none => 0
  | .engine _ => 1
  | .starter _ => 2

/-- Start unit state. -/
def startStateCode : StartState → Byte
  | .off => 0
  | .cranking => 1
  | .confirming => 2
  | .unverified => 3
  | .running => 4

/-- Temperature class. -/
def tempCode : TempClass → Nat
  | .cold => 0
  | .warm => 1
  | .unknown => 2

/-- Pulse unit status. -/
def pulseStatusCode : PulseStatus → Byte
  | .notInUse => 0
  | .unitRejected => 1
  | .noSource => 2
  | .sourceRejected => 3
  | .hasSource => 4

/-- Power state. A part without supply sends nothing; its code is never seen (assumption log 12). -/
def powerStateCode : PowerState → Nat
  | .unsupplied => 0
  | .loading => 0
  | .parked => 1
  | .waking => 2
  | .active => 3
  | .closing => 4

/-- Wake cause. -/
def wakeCauseCode : WakeCause → Nat
  | .none => 0
  | .ign => 1
  | .bus => 2
  | .pulseA => 3
  | .pulseB => 4

/-- Link state. -/
def linkStateCode : LinkState → Byte
  | .active => 0
  | .passive => 1
  | .off => 2

/-- Policy of a channel (Table 12-3). -/
def policyNamed : Nat → Option Policy
  | 0 => some .closed
  | 1 => some .opened
  | 2 => some .hold
  | _ => none

/-- Revolution source of a channel (Table 12-3): the outer `none` is out of range, as the field value 3 is
(assumption log 45). -/
def revSourceNamed : Nat → Option (Option PulseId)
  | 0 => some none
  | 1 => some (some .a)
  | 2 => some (some .b)
  | _ => none

/-- Active edge (Table 12-3). -/
def edgeNamed : Nat → Option Edge
  | 0 => some .rising
  | 1 => some .falling
  | 2 => some .both
  | _ => none

/-- Bit rate (Table 12-3). -/
def bitRateNamed : Nat → Option BitRate
  | 0 => some .k125
  | 1 => some .k250
  | 2 => some .k500
  | _ => none

/-- A number below a bound. -/
def finNamed (n : Nat) (k : Nat) : Option (Fin n) := if h : k < n then some ⟨k, h⟩ else none

/-! ### Edges -/

/-- R24: the active edge item selects an edge of this direction. -/
def edgeSelected (e : Edge) (rising : Bool) : Bool :=
  match e with
  | .rising => rising
  | .falling => !rising
  | .both => true

end Sys2Proof.Machine
end

