-- ==== Sys2Proof/Machine/History.lean ====
section
/-! DEFINITION. The history log: records of 256 bytes, their classification, the history index (R121 to R125,
R130, R198). -/

namespace Sys2Proof.Machine

/-- R121: the byte address of a history position. -/
def historyAddr (p : Nat) : Nat := 0x800 + 256 * p

/-- The 256 bytes of a history position. -/
def historyBytes (m : List Host.Cell) (p : Nat) : List Byte := memSlice m (historyAddr p) 256

/-- Classes of a stored record (R130). -/
inductive RecordClass where
  | blank
  | valid (seq : Nat)
  | torn
  deriving DecidableEq, Repr

/-- R124, R130: the classification of the record at a position. -/
def classifyHistory (p : Nat) (bs : List Byte) : RecordClass :=
  if recordBlank bs then .blank
  else if checkHolds bs ∧ leNat (bs.take 4) % 32 = p then .valid (leNat (bs.take 4))
  else .torn

/-- The class of the record a position holds. -/
def historyAt (m : List Host.Cell) (p : Nat) : RecordClass := classifyHistory p (historyBytes m p)

/-! ### Writing an entry (R198) -/

/-- An identity field: its four bytes, or free bytes where there is none (assumption log 20). -/
def identityBytes (free : List Byte) : Option Nat → List Byte
  | some v => leBytes 4 v
  | none => free

/-- The six engine tallies. -/
def engineBytes (t : EngineTallies) : List Byte :=
  leBytes 4 t.attempts ++ leBytes 4 t.starts ++ leBytes 4 t.failed ++ leBytes 4 t.unresolved ++ leBytes 4 t.cold ++
    leBytes 4 t.stalls

/-- The four starter tallies. -/
def starterBytes (t : StarterTallies) : List Byte :=
  leBytes 4 t.engagements ++ leBytes 4 t.crankTicks ++ leBytes 4 t.overCranks ++ leBytes 4 t.hotCranks

/-- The tallies of a stored entry. -/
def talliesBytes : Tallies → List Byte
  | .none => []
  | .engine t => engineBytes t
  | .starter t => starterBytes t

/-- One channel record of a stored entry. -/
def entryChanBytes (c : EntryChan) : List Byte :=
  indexByte (c.number.map (·.val)) ::
    (leBytes 4 c.hours ++ leBytes 4 c.estHours ++ leBytes 4 c.wear ++ leBytes 4 c.episodes ++ leBytes 4 c.revs)

/-- R198: an entry from its byte 0 to the last byte of its tallies. -/
def entryBody (free : List Byte) (e : HistEntry) : List Byte :=
  leBytes 4 e.seq ++
    [BitVec.ofNat 8 e.slot.val, classCode e.cls,
      BitVec.ofNat 8 (reasonCode e.reason + markBit e.identity.isSome 4 + 16 * talliesCode e.tallies),
      BitVec.ofNat 8 e.chans.length] ++
    identityBytes free e.identity ++ leBytes 2 e.generation ++ leBytes 4 e.install ++ leBytes 4 e.closeKey ++
    e.chans.flatMap entryChanBytes ++ talliesBytes e.tallies

/-- R198: the whole record of 256 bytes. -/
def encodeEntry (free : List Byte) (e : HistEntry) : List Byte := sealRecord 254 (entryBody free e)

/-- R197: the number of bytes READ HISTORY sends of a stored record: 22, 21 for each of its 1 to 4 channel
records, and its tallies (assumption log 26). -/
def entryLength (bs : List Byte) : Nat :=
  22 + 21 * max 1 (min 4 (byteAt bs 7).toNat) +
    (match bitField (byteAt bs 6).toNat 4 2 with | 1 => 24 | 2 => 16 | _ => 0)

/-! ### The history index (R122) -/

/-- R120: a position enters the index, kept in ascending sequence. -/
def enterIndex (p seq : Nat) : List (Nat × Nat) → List (Nat × Nat)
  | [] => [(p, seq)]
  | x :: r => if seq < x.2 then (p, seq) :: x :: r else x :: enterIndex p seq r

/-- R121: a position leaves the index. -/
def leaveIndex (p : Nat) (ix : List (Nat × Nat)) : List (Nat × Nat) := ix.filter fun x => decide (x.1 ≠ p)

/-- A position is in the index. -/
def inIndex (p : Nat) (ix : List (Nat × Nat)) : Bool := ix.any fun x => decide (x.1 = p)

/-- R122: the position and sequence of the (d + 1)-th highest sequence. -/
def indexAt (ix : List (Nat × Nat)) (d : Nat) : Option (Nat × Nat) := ix.reverse[d]?

/-- The index of the component table replaced. -/
def State.setIndex (s : State) (ix : List (Nat × Nat)) : State := s.setComps { s.comps with index := ix }

/-! ### The scan (R124) -/

/-- R124: one position classified: into the index, or STORE_TORN, or nothing. -/
def scanPosition (s : State) (p : Nat) : State :=
  match historyAt s.nvm p with
  | .blank => s
  | .valid seq => s.setIndex (enterIndex p seq s.comps.index)
  | .torn => raise .storeTorn (some p) s

/-- R124: the next history sequence number from the index and the checkpoint (assumption log 27). -/
def scannedNext (ix : List (Nat × Nat)) (held : Nat) : Nat :=
  match ix.getLast? with
  | none => held
  | some x => max (min max32 (x.2 + 1)) held

/-- R124: the history scan; `held` is the next sequence of the selected checkpoint, or 0. -/
def scanHistory (held : Nat) (s : State) : State :=
  let s1 := (List.range 32).foldl scanPosition (s.setIndex [])
  s1.setComps { s1.comps with nextSeq := scannedNext s1.comps.index held }

/-- R125: an entry of the checkpoint's queue is dropped. -/
def superseded (ix : List (Nat × Nat)) (e : HistEntry) : Bool :=
  ix.any fun x => decide (x.2 = e.seq) || (decide (x.1 = e.seq % 32) && decide (e.seq < x.2))

/-- R125: the reconciliation of the checkpoint's queue with the index. -/
def reconcile (queue : List HistEntry) (s : State) : State :=
  s.setComps { s.comps with queue := queue.filter fun e => !superseded s.comps.index e }

end Sys2Proof.Machine
end

