-- ==== Sys2Proof/Machine/CheckpointRecord.lean ====
section
/-! DEFINITION. The journal slots: their classification and the bytes of a checkpoint (R130, R136, Table 8-2). The
manual gives the items and the size of a checkpoint and no byte layout; the offsets here are the model's, in the order
of Table 8-2 (assumption log 9). -/

namespace Sys2Proof.Machine

/-! ### Slots -/

/-- The byte address of a journal slot (Table 8-1). -/
def slotAddr (j : Fin 11) : Nat := 0x2800 + 4096 * j.val

/-- The 4,096 bytes of a journal slot. -/
def slotBytes (m : List Host.Cell) (j : Fin 11) : List Byte := memSlice m (slotAddr j) 4096

/-- `n` bytes of a record from an offset. -/
def part (bs : List Byte) (o n : Nat) : List Byte := (bs.drop o).take n

/-- The little-endian field of `n` bytes at an offset of a record. -/
def fieldAt (bs : List Byte) (o n : Nat) : Nat := leNat (part bs o n)

/-- The journal sequence of a slot's record. -/
def checkpointSeq (bs : List Byte) : Nat := fieldAt bs 2 4

/-- R130: the classification of a journal slot; four bytes hold no sequence above 4,294,967,295. -/
def classifySlot (bs : List Byte) : RecordClass :=
  if recordBlank bs then .blank
  else if checkHolds bs ∧ 1 ≤ checkpointSeq bs then .valid (checkpointSeq bs)
  else .torn

/-- The class of the record a journal slot holds. -/
def slotAt (m : List Host.Cell) (j : Fin 11) : RecordClass := classifySlot (slotBytes m j)

/-! ### The items as bytes -/

/-- The first `n` items of a list, filled up to `n` with one value. -/
def padTo (n : Nat) (fill : Byte) (bs : List Byte) : List Byte := bs.take n ++ List.replicate (n - bs.length) fill

/-- The open-attempt mark that tallies hold. -/
def tallyMark : Tallies → Bool
  | .none => false
  | .engine t => t.openMark
  | .starter _ => false

/-- The flags of a record with an identity and tallies: bit 2 identity present, bits 4 and 5 tallies carried, as
R198 has them, and bit 6 the open-attempt mark. -/
def recordFlags (identity : Option Nat) (t : Tallies) : Nat :=
  markBit identity.isSome 4 + 16 * talliesCode t + markBit (tallyMark t) 64

/-- A component record in 40 bytes: class (0xFF for UNUSED), flags, identity, generation, install key cycle, tallies
and the numbers of up to four bound channels. -/
def putComponent (x : CkptComponent) : List Byte :=
  [(match x.cls with | none => 0xFF | some c => classCode c), BitVec.ofNat 8 (recordFlags x.identity x.tallies)] ++
    leBytes 4 (x.identity.getD 0) ++ leBytes 2 x.generation ++ leBytes 4 x.install ++
    padTo 24 0 (talliesBytes x.tallies) ++ padTo 4 0xFF (x.bound.map fun c => BitVec.ofNat 8 c.val)

/-- A channel record in 30 bytes. -/
def putChannel (x : CkptChannel) : List Byte :=
  leBytes 4 x.hours ++ leBytes 4 x.estHours ++ leBytes 4 x.wear ++ leBytes 4 x.episodes ++ leBytes 4 x.revs ++
    leBytes 2 x.hourPre ++ leBytes 2 x.estPre ++ leBytes 3 x.wearAcc ++ leBytes 2 x.clip ++
    [BitVec.ofNat 8 (markBit x.satReported 1)]

/-- A spectrum unit in 200 bytes. -/
def putSpectrum (x : Spectrum) : List Byte :=
  x.bins.toList.flatMap (leBytes 3) ++ [BitVec.ofNat 8 x.scale] ++ leBytes 2 x.divider ++ leBytes 4 x.unclassified ++
    [BitVec.ofNat 8 (markBit x.satReported 1)]

/-- Marks as a number, bit `k` for mark `k`. -/
def bitsOf : List Bool → Nat
  | [] => 0
  | b :: r => markBit b 1 + 2 * bitsOf r

/-- The fault record in 26 bytes: status, counts, and the capture with kind 0xFF when it is empty. -/
def putFaults (x : FaultRecord) : List Byte :=
  leBytes 2 (bitsOf x.status.toList) ++ x.counts.toList.map (BitVec.ofNat 8) ++
    (match x.capture with
      | none => List.replicate 10 0xFF
      | some c =>
        BitVec.ofNat 8 (kindIndex c.kind).val :: (leBytes 4 c.keyCycle ++ [indexByte c.index] ++ leBytes 4 c.elapsed))

/-- An entry of the history write queue in 130 bytes: the layout of R198 with room for four channel records and 24
bytes of tallies. -/
def putEntry (e : HistEntry) : List Byte :=
  leBytes 4 e.seq ++
    [BitVec.ofNat 8 e.slot.val, classCode e.cls,
      BitVec.ofNat 8 (reasonCode e.reason + recordFlags e.identity e.tallies), BitVec.ofNat 8 e.chans.length] ++
    leBytes 4 (e.identity.getD 0) ++ leBytes 2 e.generation ++ leBytes 4 e.install ++ leBytes 4 e.closeKey ++
    padTo 84 0xFF (e.chans.flatMap entryChanBytes) ++ padTo 24 0 (talliesBytes e.tallies)

/-- The items of Table 8-2 in its order, in 2,575 bytes. -/
def checkpointBody (c : Checkpoint) : List Byte :=
  leBytes 2 c.layout ++ leBytes 4 c.seq ++ [BitVec.ofNat 8 (markBit c.orderly 1)] ++ leBytes 4 c.keyCycles ++
    leBytes 2 c.unclosed ++ leBytes 2 c.torn ++ leBytes 4 c.lifetimeA ++ leBytes 4 c.lifetimeB ++
    c.components.toList.flatMap putComponent ++ c.channels.toList.flatMap putChannel ++
    c.spectra.toList.flatMap putSpectrum ++ putFaults c.faults ++ [BitVec.ofNat 8 c.queue.length] ++
    padTo 520 0xFF (c.queue.flatMap putEntry) ++ leBytes 4 c.nextSeq ++
    [indexByte (c.openAttempt.map (·.val))]

/-- R136: the 4,096 bytes of a checkpoint: its items, 0xFF behind them, and the check word in the last two bytes. -/
def encodeCheckpoint (c : Checkpoint) : List Byte := sealRecord 4094 (checkpointBody c)

/-! ### The items out of bytes -/

/-- The six engine tallies and the mark. -/
def getEngine (mark : Bool) (bs : List Byte) : EngineTallies :=
  { attempts := fieldAt bs 0 4, starts := fieldAt bs 4 4, failed := fieldAt bs 8 4, unresolved := fieldAt bs 12 4,
    cold := fieldAt bs 16 4, stalls := fieldAt bs 20 4, openMark := mark }

/-- The four starter tallies. -/
def getStarter (bs : List Byte) : StarterTallies :=
  { engagements := fieldAt bs 0 4, crankTicks := fieldAt bs 4 4, overCranks := fieldAt bs 8 4,
    hotCranks := fieldAt bs 12 4 }

/-- The tallies that flags and 24 bytes hold. -/
def getTallies (flags : Nat) (bs : List Byte) : Tallies :=
  match bitField flags 4 2 with
  | 1 => .engine (getEngine (bitOf flags 6) bs)
  | 2 => .starter (getStarter bs)
  | _ => .none

/-- The identity that flags and four bytes hold. -/
def getIdentity (flags v : Nat) : Option Nat := if bitOf flags 2 then some v else none

/-- A component record out of its 40 bytes. -/
def getComponent (bs : List Byte) : CkptComponent :=
  { cls := classNamed (fieldAt bs 0 1), identity := getIdentity (fieldAt bs 1 1) (fieldAt bs 2 4),
    generation := fieldAt bs 6 2, install := fieldAt bs 8 4, tallies := getTallies (fieldAt bs 1 1) (part bs 12 24),
    bound := (part bs 36 4).filterMap fun b => finNamed 24 b.toNat }

/-- A channel record out of its 30 bytes. -/
def getChannel (bs : List Byte) : CkptChannel :=
  { hours := fieldAt bs 0 4, estHours := fieldAt bs 4 4, wear := fieldAt bs 8 4, episodes := fieldAt bs 12 4,
    revs := fieldAt bs 16 4, hourPre := fieldAt bs 20 2, estPre := fieldAt bs 22 2, wearAcc := fieldAt bs 24 3,
    clip := fieldAt bs 27 2, satReported := bitOf (fieldAt bs 29 1) 0 }

/-- A spectrum unit out of its 200 bytes. -/
def getSpectrum (bs : List Byte) : Spectrum :=
  { bins := Vector.ofFn fun (i : Fin 64) => fieldAt bs (3 * i.val) 3
    scale := fieldAt bs 192 1
    divider := fieldAt bs 193 2
    unclassified := fieldAt bs 195 4
    satReported := bitOf (fieldAt bs 199 1) 0 }

/-- An index that a byte names, 0xFF for NONE. -/
def getIndex (n : Nat) : Option Nat := if n = 0xFF then none else some n

/-- The fault record out of its 26 bytes. -/
def getFaults (bs : List Byte) : FaultRecord :=
  { status := Vector.ofFn fun (i : Fin 14) => bitOf (fieldAt bs 0 2) i.val
    counts := Vector.ofFn fun (i : Fin 14) => fieldAt bs (2 + i.val) 1
    capture :=
      (allKinds[fieldAt bs 16 1]?).map fun k =>
        { kind := k, keyCycle := fieldAt bs 17 4, index := getIndex (fieldAt bs 21 1), elapsed := fieldAt bs 22 4 } }

/-- The reason a code names. -/
def reasonNamed : Nat → Reason
  | 0 => .identityChange
  | 1 => .serviceClose
  | 2 => .serviceIdentity
  | _ => .layoutChange

/-- A channel record of an entry out of its 21 bytes. -/
def getEntryChan (bs : List Byte) : EntryChan :=
  { number := finNamed 24 (fieldAt bs 0 1), hours := fieldAt bs 1 4, estHours := fieldAt bs 5 4, wear := fieldAt bs 9 4,
    episodes := fieldAt bs 13 4, revs := fieldAt bs 17 4 }

/-- An entry of the history write queue out of its 130 bytes. -/
def getEntry (bs : List Byte) : HistEntry :=
  { seq := fieldAt bs 0 4, slot := Fin.ofNat 12 (fieldAt bs 4 1), cls := (classNamed (fieldAt bs 5 1)).getD .engine,
    identity := getIdentity (fieldAt bs 6 1) (fieldAt bs 8 4), generation := fieldAt bs 12 2,
    install := fieldAt bs 14 4, closeKey := fieldAt bs 18 4, reason := reasonNamed (bitField (fieldAt bs 6 1) 0 2),
    chans := (List.range (min 4 (fieldAt bs 7 1))).map fun k => getEntryChan (part bs (22 + 21 * k) 21),
    tallies := getTallies (fieldAt bs 6 1) (part bs 106 24) }

/-- A checkpoint out of the bytes of a slot. -/
def decodeCheckpoint (bs : List Byte) : Checkpoint :=
  { layout := fieldAt bs 0 2
    seq := checkpointSeq bs
    orderly := bitOf (fieldAt bs 6 1) 0
    keyCycles := fieldAt bs 7 4
    unclosed := fieldAt bs 11 2
    torn := fieldAt bs 13 2
    lifetimeA := fieldAt bs 15 4
    lifetimeB := fieldAt bs 19 4
    components := Vector.ofFn fun (i : Fin 12) => getComponent (part bs (23 + 40 * i.val) 40)
    channels := Vector.ofFn fun (c : Fin 24) => getChannel (part bs (503 + 30 * c.val) 30)
    spectra := Vector.ofFn fun (u : Fin 4) => getSpectrum (part bs (1223 + 200 * u.val) 200)
    faults := getFaults (part bs 2023 26)
    queue := (List.range (min 4 (fieldAt bs 2049 1))).map fun k => getEntry (part bs (2050 + 130 * k) 130)
    nextSeq := fieldAt bs 2570 4
    openAttempt := finNamed 12 (fieldAt bs 2574 1) }

/-- The checkpoint that a journal slot holds. -/
def checkpointAt (m : List Host.Cell) (j : Fin 11) : Checkpoint := decodeCheckpoint (slotBytes m j)

end Sys2Proof.Machine
end

