-- ==== Sys2Proof/Machine/StorePort.lean ====
section
/-! DEFINITION. The store port: the choice among waiting operations, the checkpoint's slot and snapshot, and
the cut of the operation in flight (R131 to R141, R149, R152). -/

namespace Sys2Proof.Machine

/-! ### The choice of R132 -/

/-- The request slot's store operation that waits for the port. -/
def slotWaiting (s : State) : Option StoreReq :=
  match s.bus.slot with
  | .waitingStore req false => some req
  | .waitingStore _ true => none
  | .idle => none
  | .sending => none

/-- R132: a HISTORY READ is not eligible while a wipe is pending or in flight. -/
def slotEligible (s : State) : Option StoreReq :=
  match slotWaiting s with
  | some (.readHistory d) => if s.store.wipePending || s.store.wipeRunning then none else some (.readHistory d)
  | some (.readConfig o) => some (.readConfig o)
  | some (.writeConfig o bs) => some (.writeConfig o bs)
  | none => none

/-- What the port begins. -/
inductive PortChoice where
  | nothing
  | checkpoint
  | historyWrite (entry : HistEntry)
  | slotOp (req : StoreReq)
  | wipe
  deriving DecidableEq, Repr

/-- R132, points 4 and 5. -/
def lateChoice (s : State) : PortChoice :=
  if s.store.wipePending then .wipe
  else if s.store.normal ∧ s.power.state ≠ .loading then .checkpoint
  else .nothing

/-- R132, points 2 to 5. -/
def middleChoice (s : State) : PortChoice :=
  match s.comps.queue with
  | e :: _ => .historyWrite e
  | [] =>
    match slotEligible s with
    | some req => .slotOp req
    | none => lateChoice s

/-- R132: what the port begins next, nothing while it is BUSY. -/
def portChoice (s : State) : PortChoice :=
  match s.store.port with
  | some _ => .nothing
  | none => if s.store.urgent then .checkpoint else middleChoice s

/-- The port BUSY with an operation (R131). -/
def occupyPort (op : StoreOp) (s : State) : State := s.setStore { s.store with port := some op, discard := false }

/-- The port FREE (R131). -/
def freePort (s : State) : State := s.setStore { s.store with port := none, discard := false }

/-! ### The journal slot of a checkpoint (R137) -/

/-- `n` slots round the ring from slot number `from'`. -/
def ringSlots (from' n : Nat) : List (Fin 11) := (List.range n).map fun i => Fin.ofNat 11 (from' + i)

/-- R137: the candidate slots: from the slot after the newest valid slot, which is none of them, or all from J0. -/
def candidates (newest : Option (Fin 11)) : List (Fin 11) :=
  match newest with
  | none => ringSlots 0 11
  | some j => ringSlots (j.val + 1) 10

/-- R137: the first candidate without a bad mark. -/
def nextSlot (st : StoreCtl) : Option (Fin 11) := (candidates st.newest).find? fun j => !st.bad[j]

/-- R130: the capture index of a journal slot. -/
def slotIndex (j : Fin 11) : Nat := 32 + j.val

/-! ### The snapshot (Table 8-2) -/

/-- A component record in the snapshot. -/
def ckptComponent (s : State) (i : Fin 12) : CkptComponent :=
  let r := s.comps.slots[i]
  { cls := s.cfg.classes[i], identity := r.identity, generation := r.generation, install := r.install,
    tallies := r.tallies, bound := boundChannels s.cfg i }

/-- R77: a channel record in the snapshot. -/
def ckptChannel (ch : Channel) : CkptChannel :=
  { hours := ch.hours, estHours := ch.estHours, wear := ch.wear, episodes := ch.episodes, revs := ch.revs,
    hourPre := ch.hourPre, estPre := ch.estPre, wearAcc := ch.wearAcc, clip := ch.clip,
    satReported := ch.satReported }

/-- R93: the engine slot whose record holds the open-attempt mark. -/
def openAttemptSlot (s : State) : Option (Fin 12) :=
  match s.cfg.start with
  | none => none
  | some sc =>
    match s.comps.slots[sc.engine].tallies with
    | .engine t => if t.openMark then some sc.engine else none
    | .none => none
    | .starter _ => none

/-- R136 step 2: the snapshot with its orderly flag and its sequence. -/
def snapshot (s : State) (orderly : Bool) (seq : Nat) : Checkpoint :=
  { layout := s.cfg.layout, seq := seq, orderly := orderly, keyCycles := s.power.keyCycles,
    unclosed := s.store.unclosed, torn := s.store.torn, lifetimeA := s.pulseA.lifetime,
    lifetimeB := s.pulseB.lifetime, components := Vector.ofFn fun i => ckptComponent s i,
    channels := Vector.ofFn fun i => ckptChannel s.chans[i], spectra := s.spectra, faults := s.faults.record,
    queue := s.comps.queue, nextSeq := s.comps.nextSeq, openAttempt := openAttemptSlot s }

/-- R70: one channel told to apply its staged preset. -/
def applyStaged (s : State) (c : Fin 24) : State :=
  match s.cfg.channels[c] with
  | none => s
  | some cc =>
    match s.chans[c].staged with
    | none => s
    | some st => commitChannel c cc (applyPreset st s.chans[c]) s

/-- R136 step 1: every channel told to apply its staged preset, in channel order, so that several COUNTER_SAT raises
or DUE notices of one begin come in that order (assumption log 15). -/
def applyAllStaged (s : State) : State := (List.finRange 24).foldl applyStaged s

/-- R136 step 3: both flags, the orderly mark and the interval timer cleared. -/
def clearRequests (s : State) : State :=
  s.setStore { s.store with normal := false, urgent := false, orderly := false, interval := 0 }

/-- R140, R170: the journal disabled; STORE_WRITE becomes present with this index and is raised. -/
def disableJournal (index : Nat) (s : State) : State :=
  let s1 := s.setStore { s.store with disabled := true }
  raise .storeWrite (some index) (s1.setFaults { s1.faults with storeWrite := some (some index) })

/-- R140: the index of a journal disabled for want of a candidate: the slot of the last failure. -/
def failureIndex (st : StoreCtl) : Nat :=
  match st.lastFailed with
  | some j => slotIndex j
  | none => 32

/-- R140: the index of a journal disabled by the sequence limit: the newest valid slot, or the slot of the
last failure where there is none (assumption log 29). -/
def limitIndex (st : StoreCtl) : Nat :=
  match st.newest with
  | some j => slotIndex j
  | none => failureIndex st

/-! ### The cut of the operation in flight -/

/-- A record spoilt in its check word: the last of its `n` bytes changed in its lowest bit. -/
def spoilRecord (m : List Host.Cell) (a n : Nat) : List Host.Cell :=
  memWrite m (a + (n - 1)) (memRead m (a + (n - 1)) ^^^ 1)

/-- R120: the bytes of a history position whose write was cut leave it torn (assumption log 8). -/
def forceTorn (p : Nat) (m : List Host.Cell) : List Host.Cell :=
  if historyAt m p = .torn then m else spoilRecord m (historyAddr p) 256

/-- R121: the entry evicted from a position is gone whatever the outcome of the write, so a failed write leaves no valid
record there; that none stands there by chance either is the model's choice (assumption log 7). -/
def forceNoEntry (p : Nat) (m : List Host.Cell) : List Host.Cell :=
  match historyAt m p with
  | .valid _ => spoilRecord m (historyAddr p) 256
  | .blank => m
  | .torn => m

/-- R138, R141: a journal slot whose write was cut or failed is not valid (assumption logs 7 and 8). -/
def forceInvalid (j : Fin 11) (m : List Host.Cell) : List Host.Cell :=
  match slotAt m j with
  | .valid _ => spoilRecord m (slotAddr j) 4096
  | .blank => m
  | .torn => m

/-- R141, R149, R152: the effect of the cut of one operation. -/
def cutEffect (cut : Deviation) (op : StoreOp) (s : State) : State :=
  match op with
  | .checkpoint j _ =>
    requestNormal (s.setNvm (forceInvalid j (memWriteCells s.nvm (slotAddr j) 4096 cut)))
  | .historyWrite e _ =>
    s.setNvm
      (forceTorn (e.seq % 32) (memWriteCells s.nvm (historyAddr (e.seq % 32)) 256 cut))
  | .historyRead _ _ _ => s
  | .configRead _ => s
  | .configWrite offset _ => s.setNvm (memWriteCells s.nvm (4 * offset) 4 cut)
  | .wipe =>
    let s1 := s.setNvm (memWriteCells s.nvm 0x800 8192 cut)
    s1.setStore { s1.store with wipeRunning := false, wipePending := true }

/-- R152: the cut of whatever operation is in flight; the port is FREE. -/
def cutOperation (cut : Deviation) (s : State) : State :=
  match s.store.port with
  | none => s
  | some op => freePort (cutEffect cut op s)

end Sys2Proof.Machine
end

