-- ==== Sys2Proof/Machine/Answers.lean ====
section
/-! DEFINITION. What the part sends: pages and answer blocks, STATUS and SUMMARY frames, and the burst that
feeds the transmit queue (R183, R184, R189, R190, R194, R196, R197). -/

namespace Sys2Proof.Machine

/-! ### Pages (R194) -/

/-- R194: page `p` of data length `dl`: its byte 0, then the block's bytes, 0x00 beyond the block's end. -/
def pageData (code dl : Nat) (block : List Byte) (p : Nat) : List Byte :=
  BitVec.ofNat 8 (16 * p + code % 16) :: (List.range (dl - 1)).map fun i => block.getD ((dl - 1) * p + i) 0

/-- R194: the frames of an answer of `count` pages. -/
def answerFrames (cfg : RunConfig) (code count dl : Nat) (block : List Byte) : List TxFrame :=
  (List.range count).map fun p => formFrame cfg .response .burst (pageData code dl block p)

/-- Table 12-1: a result alone. -/
def resultFrames (cfg : RunConfig) (code : Nat) (r : Result) : List TxFrame :=
  answerFrames cfg code 1 2 [resultCode r]

/-- R187: a BUSY answer. -/
def busyFrame (cfg : RunConfig) (code : Nat) : TxFrame :=
  formFrame cfg .response .busy (pageData code 2 [resultCode .busy] 0)

/-! ### The burst (R189) -/

/-- R189: one frame fed, while the queue holds 6 frames or fewer and the buffer has one not yet fed. -/
def feedOneBurst (s : State) : State :=
  match s.bus.burst[s.bus.fed]? with
  | none => s
  | some f =>
    if s.bus.queue.length ≤ 6 then
      offerHead (s.setBus { placeFrame f s.bus with fed := s.bus.fed + 1 })
    else s

/-- R189: frames fed one at a time for as long as there is room. -/
def feedBurst : Nat → State → State
  | 0, s => s
  | n + 1, s => feedBurst n (feedOneBurst s)

/-- R189: an answer latched, SENDING entered and the first frames fed. -/
def enterSending (frames : List TxFrame) (s : State) : State :=
  feedBurst 12 (s.setBus { s.bus with slot := .sending, burst := frames, fed := 0, sent := 0 })

/-- R189: a BURST frame counted as sent; the slot is IDLE once every frame of the buffer is fed and sent. -/
def countSent (b : Bus) : Bus :=
  if b.fed = b.burst.length ∧ b.sent + 1 = b.burst.length then
    { b with slot := .idle, burst := [], fed := 0, sent := 0 }
  else { b with sent := b.sent + 1 }

/-! ### Answer blocks (R197) -/

/-- A mark at bit `i`. -/
def flagBit (b : Bool) (i : Nat) : Nat := markBit b (2 ^ i)

/-- READ SIGNAL, selector SIGNAL. -/
def signalBlock (s : State) (i : Sig) : List Byte :=
  let b := s.cap.board[i]
  [resultCode .done, sigStateCode b.state] ++ signedBytes b.value ++ [indexByte (b.active.map (·.val))] ++
    List.replicate 10 0

/-- R19, R35: the source part of an answer: state, value, 0xFF, frame count, ticks-since-frame; a source that is
rejected or not configured reads UNKNOWN, 0, 0 and 65,535. -/
def sourceFields (s : State) (x : Src) : List Byte :=
  if (srcItems s.cfg x).isSome then
    [sigStateCode s.cap.sources[x].state] ++ signedBytes s.cap.sources[x].value ++ [0xFF] ++
      (if x.val < 24 then leBytes 2 s.cap.sources[x].frames ++ leBytes 2 s.cap.sources[x].since
       else leBytes 2 0 ++ leBytes 2 max16)
  else [sigStateCode .unknown] ++ signedBytes 0 ++ [0xFF] ++ leBytes 2 0 ++ leBytes 2 max16

/-- R35: the pulse unit part of an answer. -/
def pulseFields (p : PulseCfg) (u : PulseUnit) : List Byte :=
  leBytes 4 u.lifetime ++ [BitVec.ofNat 8 (if pulseInUse p then u.disagree else 0), pulseStatusCode p.status]

/-- READ SIGNAL, selector SOURCE. -/
def sourceBlock (s : State) (x : Src) : List Byte :=
  [resultCode .done] ++ sourceFields s x ++
    (if x = 24 then pulseFields s.cfg.pulseA s.pulseA
     else if x = 25 then pulseFields s.cfg.pulseB s.pulseB
     else List.replicate 5 0 ++ [0xFF])

/-- The preset part of READ CHANNEL: quantity code, value and base. -/
def presetFields : Option Staged → Byte × List Byte
  | none => (0, List.replicate 8 0)
  | some p => (quantityCode p.quantity, leBytes 4 p.value ++ leBytes 4 p.base)

/-- READ CHANNEL. -/
def channelBlock (ch : Channel) : List Byte :=
  [resultCode .done, chanStateCode ch.state, BitVec.ofNat 8 (flagBit ch.due 0 + flagBit ch.saturated 1),
      (presetFields ch.staged).1] ++
    leBytes 4 ch.hours ++ leBytes 4 ch.estHours ++ leBytes 4 ch.wear ++ leBytes 4 ch.episodes ++ leBytes 4 ch.revs ++
    leBytes 2 ch.hourPre ++ leBytes 2 ch.estPre ++ leBytes 3 ch.wearAcc ++ leBytes 2 ch.clip ++
    [BitVec.ofNat 8 ch.qualify] ++ leBytes 2 ch.linger ++ (presetFields ch.staged).2

/-- The 24 tally bytes of READ COMPONENT; free bytes for a slot that carries none (assumption log 20). -/
def tallyField (free : List Byte) : Tallies → List Byte
  | .none => free
  | .engine t => engineBytes t
  | .starter t => starterBytes t ++ List.replicate 8 0

/-- The open-attempt mark of a record. -/
def openMarkOf : Tallies → Bool
  | .engine t => t.openMark
  | .none => false
  | .starter _ => false

/-- R95: the start unit's fields. -/
def startFields (u : StartUnit) : List Byte :=
  [startStateCode u.state,
      BitVec.ofNat 8 (tempCode u.temp + flagBit u.overCrank 2 + flagBit u.stallRunning 3)] ++
    leBytes 2 u.crankTicks ++ [BitVec.ofNat 8 u.confirm, BitVec.ofNat 8 u.stop] ++ leBytes 2 u.stallCount

/-- The slot is the start unit's engine slot. -/
def isEngineSlot (cfg : RunConfig) (i : Fin 12) : Bool :=
  match cfg.start with
  | none => false
  | some sc => decide (sc.engine = i)

/-- READ COMPONENT of a slot of class `cls`; its free bytes are those of the present supply. -/
def componentBlock (s : State) (i : Fin 12) (cls : Class) : List Byte :=
  let r := s.comps.slots[i]
  [resultCode .done, classCode cls, compStateCode r.state,
      BitVec.ofNat 8 (flagBit r.identity.isSome 0 + flagBit r.candidate.isSome 1 +
        flagBit (openMarkOf r.tallies) 2 + 16 * talliesCode r.tallies),
      BitVec.ofNat 8 r.confirm] ++
    identityBytes (freeBytesAt s 5 4) r.identity ++ identityBytes (freeBytesAt s 9 4) r.candidate ++
    leBytes 2 r.generation ++ leBytes 4 r.install ++ tallyField (freeBytesAt s 19 24) r.tallies ++
    (if isEngineSlot s.cfg i then startFields s.start else List.replicate 8 0)

/-- READ SPECTRUM from bin `first`. -/
def spectrumBlock (sc : SpecCfg) (r : Spectrum) (first : Nat) : List Byte :=
  [resultCode .done, BitVec.ofNat 8 sc.owner.val,
      BitVec.ofNat 8 (flagBit sc.axes.isNone 0 + flagBit r.satReported 1), BitVec.ofNat 8 r.scale] ++
    leBytes 2 r.divider ++ leBytes 4 r.unclassified ++ [BitVec.ofNat 8 first] ++
    (List.range 8).flatMap fun i => leBytes 3 (r.bins.toList.getD (first + i) 0)

/-- The status of every kind as a number, bit k for kind k. -/
def statusBits (f : FaultUnit) : Nat :=
  (allKinds.map fun k => flagBit (statusOf f k) (kindIndex k).val).sum

/-- The presence marks as a number. -/
def presenceBits (f : FaultUnit) : Nat :=
  flagBit f.cfgInvalid.isSome 0 + flagBit f.cfgItem.isSome 1 + flagBit f.sigStale.isSome 2 +
    flagBit f.linkOff.isSome 3 + flagBit f.storeWrite.isSome 4

/-- The capture part of READ FAULTS; of an empty capture the kind and index read 0xFF and the rest is free
(assumption logs 20 and 32). -/
def captureFields (s : State) : Option FaultCapture → List Byte
  | none => [0xFF] ++ freeBytesAt s 19 4 ++ [0xFF] ++ freeBytesAt s 24 4
  | some c =>
    [BitVec.ofNat 8 (kindIndex c.kind).val] ++ leBytes 4 c.keyCycle ++ [indexByte c.index] ++ leBytes 4 c.elapsed

/-- READ FAULTS. Bits 14 and 15 of the fault masks, which name no kind, are shown as the image holds them (assumption
log 40). -/
def faultsBlock (s : State) : List Byte :=
  [resultCode .done] ++ leBytes 2 (statusBits s.faults) ++ [BitVec.ofNat 8 (presenceBits s.faults)] ++
    s.faults.record.counts.toList.map (BitVec.ofNat 8) ++ captureFields s s.faults.record.capture ++
    leBytes 2 s.store.unclosed ++ leBytes 2 s.store.torn ++ leBytes 2 s.cfg.faultMasks.toNat ++
    leBytes 3 s.cfg.dueMasks.toNat

/-- READ CONFIG and WRITE CONFIG. -/
def configBlock (offset : Nat) (word : List Byte) : List Byte := [resultCode .done] ++ leBytes 2 offset ++ word

/-- READ HISTORY of a stored record. -/
def historyBlock (distance : Nat) (record : List Byte) : List Byte :=
  [resultCode .done, BitVec.ofNat 8 distance] ++ record.take (entryLength record)

/-- R194, Table 12-1: the frames of a READ HISTORY answer. -/
def historyFrames (cfg : RunConfig) (distance : Nat) (record : List Byte) : List TxFrame :=
  answerFrames cfg 5 (((historyBlock distance record).length + 10) / 11) 12 (historyBlock distance record)

/-- R190, R191: an answer with a free supply used for its block. -/
def answerRead (code count dl : Nat) (block : List Byte) (s : State) : State :=
  enterSending (answerFrames s.cfg code count dl block) (takeFree block.length s)

/-- An answer of one page with a result alone. -/
def answerResult (code : Nat) (r : Result) (s : State) : State := enterSending (resultFrames s.cfg code r) s

/-! ### Periodic frames (R183, R184, R196) -/

/-- R184: the STATUS frame. -/
def statusFrame (s : State) : TxFrame :=
  formFrame s.cfg .status .status
    ([BitVec.ofNat 8 (powerStateCode s.power.state + 16 * wakeCauseCode s.power.cause)] ++
      leBytes 3 s.power.keyCycles ++
      [BitVec.ofNat 8 (dueCount s), BitVec.ofNat 8 (unmaskedCount s), linkStateCode s.bus.link,
        BitVec.ofNat 8 (markBit s.cfg.fallback 1)])

/-- R183: the SUMMARY frame of a channel. -/
def summaryFrame (s : State) (c : Fin 24) : TxFrame :=
  let ch := s.chans[c]
  formFrame s.cfg .summary .summary
    ([BitVec.ofNat 8 c.val,
        BitVec.ofNat 8 (flagBit ch.due 0 + flagBit ch.saturated 1 + flagBit (decide (0 < ch.estHours)) 2)] ++
      leBytes 3 (wholeUnits ch.hours) ++ leBytes 3 (wholeUnits ch.wear))

/-- R183: the next enabled channel after the one the pointer names, going round. -/
def nextEnabled (cfg : RunConfig) (p : Fin 24) : Option (Fin 24) :=
  ((List.range 24).map fun i => (Fin.ofNat 24 (p.val + 1 + i) : Fin 24)).find? fun (c : Fin 24) =>
    cfg.channels[c].isSome

/-- R181, R184: the gate opens at an arrival that finds it shut: both timers at 0 and a STATUS frame queued
(assumption log 38). -/
def openGate (s : State) : State :=
  if s.bus.gate then s
  else
    let s1 := s.setBus { s.bus with gate := true, summaryCount := 0, statusCount := 0 }
    let s2 := queueFrame (statusFrame s1) s1
    offerHead s2

end Sys2Proof.Machine
end

