-- ==== Sys2Proof/Machine/PowerControl.lean ====
section
/-! DEFINITION. Power control: PARKED, WAKING, ACTIVE and CLOSING entries, abandonment, warm restart, and the
checkpoint's begin and completion with the report they make to it (R136 to R140, R152, R153, R157 to R163). -/

namespace Sys2Proof.Machine

/-! ### What the blocks do at an entry -/

/-- R27: the running window of a unit abandoned. -/
def abandonWindow (u : PulseUnit) : PulseUnit := { u with running := false, windowTicks := 0, windowEdges := 0 }

/-- R27, R34: both windows abandoned. -/
def abandonWindows (s : State) : State := (s.setPulseA (abandonWindow s.pulseA)).setPulseB (abandonWindow s.pulseB)

/-- R27, R34: a new window of a unit in use, with disagreement count 0. -/
def openWindow (p : PulseCfg) (u : PulseUnit) : PulseUnit :=
  if pulseInUse p then { u with running := true, windowTicks := 0, windowEdges := 0, disagree := 0 } else u

/-- R34: new windows at an ACTIVE entry. -/
def openWindows (s : State) : State :=
  (s.setPulseA (openWindow s.cfg.pulseA s.pulseA)).setPulseB (openWindow s.cfg.pulseB s.pulseB)

/-- R33: both disagreement counts 0. -/
def clearDisagreements (s : State) : State :=
  (s.setPulseA { s.pulseA with disagree := 0 }).setPulseB { s.pulseB with disagree := 0 }

/-- R76: every channel's episode ended. -/
def endEpisodes (s : State) : State := s.setChans (vecMap (fun _ ch => endEpisode ch) s.chans)

/-- The operation of the request slot that is in flight (R132). -/
def serviceOp : StoreOp → Bool
  | .historyRead _ _ _ => true
  | .configRead _ => true
  | .configWrite _ _ => true
  | .checkpoint _ _ => false
  | .historyWrite _ _ => false
  | .wipe => false

/-- R187: the request slot freed, its burst abandoned; an operation of it in flight completes with its result
discarded (R132). -/
def freeSlot (s : State) : State :=
  let s1 := s.setBus { s.bus with slot := .idle, burst := [], fed := 0, sent := 0 }
  match s1.store.port with
  | none => s1
  | some op => if serviceOp op then s1.setStore { s1.store with discard := true } else s1

/-- R193: the queue and the key-cycle list emptied without a fault, the gate shut, the slot freed. At PARKED entry the
slot's waiting operation is withdrawn with it (R187, R193), where the table of R150 has it kept (assumption log 42). -/
def dropTraffic (s : State) : State :=
  freeSlot
    (s.setBus
      { s.bus with queue := [], offer := .none, gate := false, summaryCount := 0, statusCount := 0, keyList := [] })

/-- R170: LINK_OFF no longer present. -/
def endLinkOff (s : State) : State := s.setFaults { s.faults with linkOff := none }

/-! ### Entries -/

/-- R158: a wake event in PARKED: WAKING with its cause, the settle timer started, sources UNKNOWN (R22),
episodes ended (R76). -/
def wakeEvent (cause : WakeCause) (s : State) : State :=
  endEpisodes (forgetSources (s.setPower { s.power with state := .waking, cause := cause, settle := true }))

/-- R157: PARKED at power control. -/
def parkPower (p : Power) : Power :=
  { p with state := .parked, pulseWake := none, quietRunning := false, quietCount := 0, settle := false,
           keyOpen := false }

/-- R157: the PARKED entry as the blocks take it; the request slot's waiting operation is withdrawn (assumption
log 42). -/
def parkBlocks (s : State) : State :=
  endAttempt
    (abandonWindows
      (ignUnknown (stopTimers (emptyReceive (endLinkOff (dropTraffic (s.setPower (parkPower s.power))))))))

/-- R157: PARKED entry, followed by a wake event at once where the WAKE line is active. -/
def parkedEntry (s : State) : State :=
  if s.lines.wake then wakeEvent .bus (parkBlocks s) else parkBlocks s

/-- R159: ACTIVE at power control. -/
def activatePower (p : Power) : Power :=
  { p with state := .active, quietRunning := true, quietCount := 0, pulseWake := none, settle := false }

/-- R159, R182: the link controller started unless it runs already. -/
def startLink (running : Bool) (s : State) : State := if running then s else s.setBus { s.bus with link := .active }

/-- R159, R164: an urgent request where the supply warning is active. -/
def warningRequest (s : State) : State := if s.lines.warning then requestUrgent s else s

/-- R159: ACTIVE entry. `running` says whether the link controller runs already (a return from CLOSING). -/
def activeEntry (running : Bool) (s : State) : State :=
  let s1 := warningRequest (startLink running (s.setPower (activatePower s.power)))
  let s2 := openWindows (shutGate (s1.setFaults { s1.faults with elapsed := 0 }))
  enterSignals s2

/-- R161: CLOSING at power control. -/
def closePower (p : Power) : Power :=
  { p with state := .closing, quietRunning := false, quietCount := 0, keyOpen := false }

/-- R161: CLOSING entry. -/
def enterClosing (s : State) : State :=
  abandonWindows (endAttempt (endEpisodes (requestOrderly (s.setPower (closePower s.power)))))

/-- R160: the closing condition (assumption log 33). -/
def closingCondition (s : State) : Bool :=
  if s.cfg.ignUsed then !s.lines.ign
  else !(usable s.cap.board[sKeyState].state && decide (s.cap.board[sKeyState].value = 2))

/-- A checkpoint in flight whose snapshot carries the orderly flag. -/
def orderlyInFlight (st : StoreCtl) : Bool :=
  match st.port with
  | some (.checkpoint _ snap) => snap.orderly
  | some (.historyWrite _ _) => false
  | some (.historyRead _ _ _) => false
  | some (.configRead _) => false
  | some (.configWrite _ _) => false
  | some .wipe => false
  | none => false

/-- R135: an abandonment at the record store controller. -/
def reportAbandonment (s : State) : State :=
  if orderlyInFlight s.store then s.setStore { s.store with followUp := true, orderly := false }
  else s.setStore { s.store with orderly := false, normal := true }

/-- R163: CLOSING abandoned for ACTIVE. -/
def abandonClosing (s : State) : State := activeEntry true (reportAbandonment s)

/-! ### Checkpoint begin and completion -/

/-- Outcomes of a checkpoint (R139, R140). -/
inductive CkptOutcome where
  | written
  | failed
  | skipped
  deriving DecidableEq, Repr

/-- R162: a completion report at power control. -/
def reportCompletion (o : CkptOutcome) (orderly : Bool) (s : State) : State :=
  match s.power.state with
  | .closing =>
    match o with
    | .written => if orderly then parkedEntry s else s
    | .skipped => if orderly then parkedEntry s else s
    | .failed => s
  | .unsupplied => s
  | .loading => s
  | .parked => s
  | .waking => s
  | .active => s

/-- R135: the follow-up of an abandoned CLOSING. -/
def makeFollowUp (s : State) : State :=
  if s.store.followUp then s.setStore { s.store with followUp := false, normal := true } else s

/-- R139, R140: what follows a completion: the report, then the follow-up. -/
def afterCheckpoint (o : CkptOutcome) (orderly : Bool) (s : State) : State := makeFollowUp (reportCompletion o orderly s)

/-- R137: the write of a snapshot begins in a slot with the next sequence. The slot holds no valid checkpoint from
then on (R138): its bytes are erased at the begin (assumption log 35). -/
def startCheckpoint (j : Fin 11) (orderly : Bool) (s : State) : State :=
  let seq := s.store.lastIssued + 1
  let s1 := s.setNvm (memErase s.nvm (slotAddr j) 4096)
  occupyPort (.checkpoint j (snapshot s orderly seq)) (s1.setStore { s.store with lastIssued := seq })

/-- R136, R140: a checkpoint begin. -/
def beginCheckpoint (s : State) : State :=
  let orderly := s.store.orderly
  let s1 := clearRequests (applyAllStaged s)
  if s1.cfg.fallback ∨ s1.store.disabled then afterCheckpoint .skipped orderly s1
  else
    match nextSlot s1.store with
    | none => afterCheckpoint .skipped orderly (disableJournal (failureIndex s1.store) s1)
    | some j =>
      if s1.store.lastIssued < max32 then startCheckpoint j orderly s1
      else afterCheckpoint .skipped orderly (disableJournal (limitIndex s1.store) s1)

/-- R139: verify pass. -/
def checkpointPassed (j : Fin 11) (snap : Checkpoint) (s : State) : State :=
  afterCheckpoint .written snap.orderly (s.setStore { s.store with newest := some j, newestSeq := snap.seq })

/-- R139: verify fail. -/
def checkpointFailed (j : Fin 11) (snap : Checkpoint) (s : State) : State :=
  let s1 := s.setStore { s.store with bad := s.store.bad.set j true, lastFailed := some j }
  let s2 := requestNormal (raise .storeWrite (some (slotIndex j)) s1)
  let s3 := if snap.orderly ∧ ¬ s2.store.followUp then requestOrderly s2 else s2
  afterCheckpoint .failed snap.orderly s3

/-- The bytes of the store after the write of a checkpoint, with what differs (assumption log 35). -/
def writtenSlot (m : List Host.Cell) (j : Fin 11) (snap : Checkpoint) (dev : Deviation) : List Host.Cell :=
  memWriteCells (memWriteBytes m (slotAddr j) (encodeCheckpoint snap)) (slotAddr j) 4096 dev

/-- R138, R139: the completion of a checkpoint write: the slot is read back and compared with the snapshot; a slot
that differs is not valid (assumption log 7). -/
def completeCheckpoint (dev : Deviation) (j : Fin 11) (snap : Checkpoint) (s : State) : State :=
  let m := writtenSlot s.nvm j snap dev
  if slotBytes m j = encodeCheckpoint snap then checkpointPassed j snap (freePort (s.setNvm m))
  else checkpointFailed j snap (freePort (s.setNvm (forceInvalid j m)))

/-! ### Warm restart -/

/-- R135, R150: the orderly and follow-up marks cleared. -/
def clearOrderly (s : State) : State := s.setStore { s.store with orderly := false, followUp := false }

/-- R153: what power control does first at a warm restart. -/
def restartPower (p : Power) : Power :=
  { p with quietRunning := false, quietCount := 0, pulseWake := none, settle := false }

/-- R153, Table 9-2: a warm restart as the blocks take it, before the wake test. -/
def restartBlocks (cut : Deviation) (s : State) : State :=
  let s1 := clearOrderly (cutOperation cut s)
  let s2 := endLinkOff (dropTraffic (s1.setPower (restartPower s1.power)))
  endAttempt (endEpisodes (clearDisagreements (abandonWindows (forgetSources (emptyReceive s2)))))

/-- R153: a wake condition: IGN high, or the WAKE line active. -/
def wakeCondition (s : State) : Bool := s.lines.ign || s.lines.wake

/-- R153: a warm restart. -/
def warmRestart (cut : Deviation) (s : State) : State :=
  let s1 := restartBlocks cut s
  if wakeCondition s1 then
    requestNormal
      (activeEntry false (s1.setPower { s1.power with cause := if s1.lines.ign then .ign else .bus }))
  else parkedEntry s1

end Sys2Proof.Machine
end

