-- ==== Sys2Proof/Machine/Image.lean ====
section
/-! DEFINITION. The configuration image: its layout and its item checks in the order of Table 9-3 (R5, R6, R13,
R15, R23, R36, R38, R39, R41, R53, R79, R97, R109, R155, R156, R198). -/

namespace Sys2Proof.Machine

/-! ### Reading the image (Table 12-3) -/

/-- The byte of the image at an offset; block 0 begins at address 0. -/
abbrev Image := Nat → Byte

/-- A byte field. -/
def img8 (im : Image) (a : Nat) : Nat := (im a).toNat

/-- A two-byte field. -/
def img16 (im : Image) (a : Nat) : Nat := img8 im a + 256 * img8 im (a + 1)

/-- A three-byte field. -/
def img24 (im : Image) (a : Nat) : Nat := img16 im a + 65536 * img8 im (a + 2)

/-- A four-byte field. -/
def img32 (im : Image) (a : Nat) : Nat := img16 im a + 65536 * img16 im (a + 2)

/-- A signed two-byte field. -/
def imgS16 (im : Image) (a : Nat) : Int := signed16 (img16 im a)

/-- What checking an item gives, with the CFG_ITEM numbers it raises in the order raised (R156). -/
abbrev Checked (α : Type) := α × List Nat

/-- R198: an identifier field: format in bits 29 to 31, 0 for 11-bit and 1 for 29-bit, identifier below; none
where the format or an 11-bit identifier is out of range. -/
def identifierField (im : Image) (a : Nat) : Option (Bool × Nat) :=
  let f := img32 im a / 2 ^ 29
  let i := img32 im a % 2 ^ 29
  if f = 0 then if i ≤ 0x7FF then some (false, i) else none
  else if f = 1 then some (true, i)
  else none

/-! ### 1: component slots and identity sources (R5, R109) -/

/-- R109: the class of a slot. -/
def checkClass (im : Image) (n : Fin 12) : Checked (Option Class) :=
  if img8 im (442 + n.val) = 0xFF then (none, [])
  else
    match classNamed (img8 im (442 + n.val)) with
    | some cls => (some cls, [])
    | none => (none, [80 + n.val])

/-- R5, R109: the identity source of a slot (assumption log 23). -/
def checkIdentity (im : Image) (n : Fin 12) : Checked (Option IdentSrc) :=
  let a := 382 + 5 * n.val
  if img32 im a = 0xFFFFFFFF then (none, [])
  else
    match identifierField im a with
    | none => (none, [80 + n.val])
    | some (ext, ident) =>
      if img8 im (a + 4) ≤ 4 then (some { ext := ext, ident := ident, offset := img8 im (a + 4) }, [])
      else (none, [80 + n.val])

/-- R109: the raises of one slot (assumption log 39). -/
def slotRaises (im : Image) (n : Fin 12) : List Nat := (checkClass im n).2 ++ (checkIdentity im n).2

/-! ### 2: band tables (R36) -/

/-- Strictly ascending limits. -/
def ascending : List Int → Bool
  | [] => true
  | [_] => true
  | a :: b :: r => decide (a < b) && ascending (b :: r)

/-- R36: a band table. -/
def checkBand (im : Image) (t : Fin 10) : Checked BandTable :=
  let a := 454 + 15 * t.val
  let n := img8 im a
  let limits := (List.range n).map fun i => imgS16 im (a + 1 + 2 * i)
  if n = 0xFF then (.absent, [])
  else if 1 ≤ n ∧ n ≤ 7 then
    if ascending limits then (.valid limits, []) else (.rejected, [32 + t.val])
  else (.rejected, [32 + t.val])

/-! ### 3: signal map entries (R6) -/

/-- R6: a target a map entry may have. -/
def mapTarget (n : Nat) : Option Sig := if n = 7 then none else finNamed 14 n

/-- R6: the items of an entry that names a target, as the image gives them (assumption log 40). -/
def mapItems (im : Image) (a : Nat) (ext : Bool) (ident : Nat) (target : Sig) : MapEntry :=
  { ext := ext, ident := ident, target := target, start := img8 im (a + 5) % 16,
    bitOffset := img8 im (a + 5) / 16, len := img8 im (a + 6) % 32,
    bigEndian := bitOf (img8 im (a + 6)) 7, gain := img16 im (a + 7), shift := img8 im (a + 9),
    offset := imgS16 im (a + 10), timeout := img8 im (a + 12), hold := img8 im (a + 13),
    prio := img8 im (a + 14) }

/-- R6: every item inside its range, and the field inside the frame. -/
def mapInRange (e : MapEntry) : Bool :=
  decide (e.start ≤ 7) && decide (e.bitOffset ≤ 7) && decide (1 ≤ e.len) && decide (e.len ≤ 16) &&
    decide (1 ≤ e.gain) && decide (e.shift ≤ 15) && decide (1 ≤ e.timeout) && decide (e.timeout ≤ 250) &&
    decide (e.hold ≤ 250) && decide (e.prio ≤ 7) && decide (e.start + fieldBytes e ≤ 8)

/-- R6: a signal map entry. -/
def checkEntry (im : Image) (n : Fin 24) : Checked (Option MapEntry) :=
  let a := 22 + 15 * n.val
  if img8 im (a + 4) = 0xFF then (none, [])
  else
    match identifierField im a, mapTarget (img8 im (a + 4)) with
    | some (ext, ident), some target =>
      if mapInRange (mapItems im a ext ident target) then (some (mapItems im a ext ident target), [])
      else (none, [n.val])
    | _, _ => (none, [n.val])

/-! ### 4: pulse units (R13, R23) -/

/-- R23: the items of a unit in use are in range, target and priority apart. -/
def pulseInRange (im : Image) (a : Nat) : Bool :=
  decide (img8 im a ≤ 1) && decide (img8 im (a + 1) ≤ 2) && decide (1 ≤ img8 im (a + 2)) &&
    decide (1 ≤ img8 im (a + 5)) && decide (img8 im (a + 5) ≤ 250) && decide (img8 im (a + 6) ≤ 250) &&
    decide (img8 im (a + 7) ≤ 1) && decide (1 ≤ img8 im (a + 8)) && decide (img8 im (a + 8) ≤ 50)

/-- R13: the outcome of the target check: the signal, or NONE, or a rejected target. -/
def pulseTarget (n : Nat) : PulseStatus × Sig :=
  if n = 0xFF then (.noSource, sPropSpeed)
  else if n = 10 then (.hasSource, sPropSpeed)
  else if n = 6 then (.hasSource, sInputShaftSpeed)
  else (.sourceRejected, sPropSpeed)

/-- R23: the items of a unit that is in use. -/
def pulseItemsAt (im : Image) (a : Nat) : PulseCfg :=
  { status := (pulseTarget (img8 im (a + 3))).1
    edge := (edgeNamed (img8 im (a + 1))).getD .rising
    teeth := img8 im (a + 2)
    target := (pulseTarget (img8 im (a + 3))).2
    prio := img8 im (a + 4)
    timeout := img8 im (a + 5)
    hold := img8 im (a + 6)
    wakeEnable := decide (img8 im (a + 7) = 1)
    tolerance := img8 im (a + 8) }

/-- R13, R23: a pulse unit whose items begin at `a` and whose source number is `src`. -/
def checkPulse (im : Image) (a src : Nat) : Checked PulseCfg :=
  if img8 im a = 0 then (PulseCfg.notInUse, [])
  else if pulseInRange im a then
    (pulseItemsAt im a,
      match (pulseTarget (img8 im (a + 3))).1 with
      | .sourceRejected => [src]
      | .notInUse => []
      | .unitRejected => []
      | .noSource => []
      | .hasSource => [])
  else ({ PulseCfg.notInUse with status := .unitRejected }, [src])

/-! ### 5: source priorities (R15) -/

/-- The sources whose priorities are compared. -/
structure Sources where
  entries : Vector (Option MapEntry) 24
  pulseA  : PulseCfg
  pulseB  : PulseCfg
  ign     : Option Nat
  deriving DecidableEq, Repr

/-- The target and priority of a source by its number (R15). -/
def sourcePrio (x : Sources) (i : Nat) : Option (Sig × Nat) :=
  if h : i < 24 then x.entries[i].map fun e => (e.target, e.prio)
  else if i = 24 then (pulseItems x.pulseA).map fun p => (p.target, p.prio)
  else if i = 25 then (pulseItems x.pulseB).map fun p => (p.target, p.prio)
  else x.ign.map fun p => (sKeyState, p)

/-- R15: a source rejected. -/
def rejectSource (x : Sources) (i : Nat) : Sources :=
  if h : i < 24 then { x with entries := x.entries.set i none }
  else if i = 24 then { x with pulseA := { x.pulseA with status := .sourceRejected } }
  else if i = 25 then { x with pulseB := { x.pulseB with status := .sourceRejected } }
  else { x with ign := none }

/-- R15: a priority above 7. -/
def prioTooHigh (x : Sources) (i : Nat) : Bool :=
  match sourcePrio x i with
  | none => false
  | some p => decide (7 < p.2)

/-- R15: an earlier source of the same signal has the same priority. -/
def prioTaken (x : Sources) (i : Nat) : Bool :=
  match sourcePrio x i with
  | none => false
  | some p => (List.range i).any fun j => decide (sourcePrio x j = some p)

/-- One source tested and rejected where the test holds. -/
def testSource (test : Sources → Nat → Bool) (acc : Checked Sources) (i : Nat) : Checked Sources :=
  if test acc.1 i then (rejectSource acc.1 i, acc.2 ++ [i]) else acc

/-- R15: the priority checks: ranges first, then shared priorities in configuration order (assumption log 24). -/
def checkPriorities (x : Sources) : Checked Sources :=
  (List.range 27).foldl (testSource prioTaken) ([24, 25, 26].foldl (testSource prioTooHigh) (x, []))

/-! ### 6, 7: weight maps and factor tables (R38, R39, R41) -/

/-- What a pairing of a signal with a band table comes to. -/
inductive Pairing where
  | sound
  | silent
  | loud
  deriving DecidableEq, Repr

/-- R38: every limit lies within the range of the signal. -/
def limitsFit (sig : Sig) (limits : List Int) : Bool :=
  limits.all fun l => decide (sigLow sig ≤ l) && decide (l ≤ sigHigh sig)

/-- R38, R39, R97: an axis: a bad signal number, a bad table number or a failed use raises a fault; a rejected
table raises none of its own. -/
def checkPairing (bands : Vector BandTable 10) (sig table : Nat) : Pairing :=
  match finNamed 14 sig, finNamed 10 table with
  | some x, some t =>
    match bands[t] with
    | .absent => .loud
    | .rejected => .silent
    | .valid limits => if limitsFit x limits then .sound else .loud
  | _, _ => .loud

/-- The raise of a degraded user: its item number unless no pairing is loud. -/
def pairingRaise (item : Nat) (ps : List Pairing) : List Nat :=
  if ps.any fun p => decide (p = .loud) then [item] else []

/-- Every pairing sound. -/
def allSound (ps : List Pairing) : Bool := ps.all fun p => decide (p = .sound)

/-- The two axes of a map or spectrum unit whose x signal field is at `a`. -/
def axisPairings (im : Image) (bands : Vector BandTable 10) (a : Nat) : List Pairing :=
  [checkPairing bands (img8 im a) (img8 im (a + 1)), checkPairing bands (img8 im (a + 2)) (img8 im (a + 3))]

/-- R39: a weight map. -/
def checkMap (im : Image) (bands : Vector BandTable 10) (m : Fin 6) : Checked WeightMap :=
  let a := 604 + 134 * m.val
  if img8 im a = 0xFF then (.absent, [])
  else
    let ps := axisPairings im bands a
    if allSound ps then
      (.valid (Fin.ofNat 14 (img8 im a)) (Fin.ofNat 10 (img8 im (a + 1))) (Fin.ofNat 14 (img8 im (a + 2)))
        (Fin.ofNat 10 (img8 im (a + 3))) (img16 im (a + 4))
        (Vector.ofFn fun (i : Fin 64) => img16 im (a + 6 + 2 * i.val)), [])
    else (.degraded (img16 im (a + 4)), pairingRaise (42 + m.val) ps)

/-- R41: the signal of a factor table is one of the three temperature signals. -/
def isTemperature (n : Nat) : Bool := decide (n = 2) || decide (n = 8) || decide (n = 11)

/-- R41: a factor table. -/
def checkFactor (im : Image) (bands : Vector BandTable 10) (t : Fin 3) : Checked FactorTable :=
  let a := 1408 + 18 * t.val
  if img8 im a = 0xFF then (.absent, [])
  else
    let p := if isTemperature (img8 im a) then checkPairing bands (img8 im a) (img8 im (a + 1)) else .loud
    if allSound [p] then
      (.valid (Fin.ofNat 14 (img8 im a)) (Fin.ofNat 10 (img8 im (a + 1)))
        (Vector.ofFn fun (i : Fin 8) => img16 im (a + 2 + 2 * i.val)), [])
    else (.degraded, pairingRaise (48 + t.val) [p])

/-! ### 8: channels (R52, R53) -/

/-- R52: a gate term whose signal field is at `a`. -/
def gateTermAt (im : Image) (a : Nat) : Option GateTerm :=
  match finNamed 14 (img8 im a) with
  | none => none
  | some sig =>
    if imgS16 im (a + 1) ≤ imgS16 im (a + 3) then
      some { signal := sig, low := imgS16 im (a + 1), high := imgS16 im (a + 3) }
    else none

/-- R52: the optional second term; the outer `none` is out of range. -/
def secondTermAt (im : Image) (a : Nat) : Option (Option GateTerm) :=
  if img8 im a = 0xFF then some none else (gateTermAt im a).map some

/-- R52, R53: the weight source; a map must be one the image holds. -/
def weightSourceAt (im : Image) (maps : Vector WeightMap 6) (a : Nat) : Option WeightSource :=
  if bitOf (img8 im a) 3 then
    match finNamed 6 (img16 im (a + 15)) with
    | none => none
    | some m =>
      match maps[m] with
      | .absent => none
      | .degraded _ => some (.map m)
      | .valid _ _ _ _ _ _ => some (.map m)
  else some (.constant (img16 im (a + 15)))

/-- R52, R53: the factor table; the outer `none` is out of range or a table the image does not hold. -/
def factorAt (im : Image) (factors : Vector FactorTable 3) (a : Nat) : Option (Option (Fin 3)) :=
  if img8 im (a + 17) = 0xFF then some none
  else
    match finNamed 3 (img8 im (a + 17)) with
    | none => none
    | some t =>
      match factors[t] with
      | .absent => none
      | .degraded => some (some t)
      | .valid _ _ _ => some (some t)

/-- R53: the slot of a channel, which must be configured. -/
def channelSlot (im : Image) (classes : Vector (Option Class) 12) (a : Nat) : Option (Fin 12) :=
  match finNamed 12 (img8 im (a + 1)) with
  | none => none
  | some i => if classes[i].isSome then some i else none

/-- The number of channels accepted so far for a slot. -/
def acceptedFor (chans : Vector (Option ChanCfg) 24) (i : Fin 12) : Nat :=
  (chans.toList.filter fun o => match o with | none => false | some cc => decide (cc.slot = i)).length

/-- R52, R53: the items of an enabled channel that passes every check. -/
def channelItems (im : Image) (classes : Vector (Option Class) 12) (maps : Vector WeightMap 6)
    (factors : Vector FactorTable 3) (chans : Vector (Option ChanCfg) 24) (a : Nat) : Option ChanCfg := do
  let slot ← channelSlot im classes a
  let term1 ← gateTermAt im (a + 2)
  let term2 ← secondTermAt im (a + 7)
  let policy ← policyNamed (bitField (img8 im a) 1 2)
  let revSource ← revSourceNamed (bitField (img8 im a) 5 2)
  let weight ← weightSourceAt im maps a
  let factor ← factorAt im factors a
  if img8 im (a + 12) ≤ 50 ∧ img16 im (a + 13) ≤ 3000 ∧ acceptedFor chans slot < 4 then
    some
      { slot := slot, term1 := term1, term2 := term2, policy := policy, qualify := img8 im (a + 12),
        separation := img16 im (a + 13), weight := weight, factor := factor, revSource := revSource,
        basis := if bitOf (img8 im a) 4 then .wear else .hours, threshold := img32 im (a + 18) }
  else none

/-- R53: one channel checked after the earlier ones. -/
def checkChannel (im : Image) (classes : Vector (Option Class) 12) (maps : Vector WeightMap 6)
    (factors : Vector FactorTable 3) (acc : Checked (Vector (Option ChanCfg) 24)) (c : Fin 24) :
    Checked (Vector (Option ChanCfg) 24) :=
  let a := 1462 + 22 * c.val
  if bitOf (img8 im a) 0 then
    match channelItems im classes maps factors acc.1 a with
    | some cc => (acc.1.set c (some cc), acc.2)
    | none => (acc.1, acc.2 ++ [51 + c.val])
  else acc

/-- R53: the channels in channel order. -/
def checkChannels (im : Image) (classes : Vector (Option Class) 12) (maps : Vector WeightMap 6)
    (factors : Vector FactorTable 3) : Checked (Vector (Option ChanCfg) 24) :=
  (List.finRange 24).foldl (checkChannel im classes maps factors) (Vector.replicate 24 none, [])

/-! ### 9: start unit (R79) -/

/-- R198: an unset byte item takes its default. -/
def orDefault8 (n d : Nat) : Nat := if n = 0xFF then d else n

/-- R198: an unset two-byte item takes its default. -/
def orDefault16 (n d : Nat) : Nat := if n = 0xFFFF then d else n

/-- R79: the items of a unit that names an engine slot, defaults taken, without its starter slot. -/
def startItems (im : Image) (engine : Fin 12) : StartCfg :=
  { engine := engine, starter := none, run := orDefault16 (img16 im 2030) 400,
    stop := orDefault16 (img16 im 2032) 150, confirm := orDefault8 (img8 im 2034) 20,
    stopTicks := orDefault8 (img8 im 2035) 10, crankLimit := orDefault16 (img16 im 2036) 300,
    cold := (orDefault8 (img8 im 2038) 45 : Int) - 40, stall := orDefault16 (img16 im 2039) 600 }

/-- R79: every item inside its range, and the stop threshold below the run threshold. -/
def startInRange (x : StartCfg) : Bool :=
  decide (1 ≤ x.run) && decide (x.run ≤ 8000) && decide (x.stop ≤ 7999) && decide (1 ≤ x.confirm) &&
    decide (x.confirm ≤ 100) && decide (1 ≤ x.stopTicks) && decide (x.stopTicks ≤ 100) &&
    decide (10 ≤ x.crankLimit) && decide (x.crankLimit ≤ 600) && decide (x.cold ≤ 150) &&
    decide (x.stall ≤ 6000) && decide (x.stop < x.run)

/-- R79: the starter part. -/
def checkStarter (im : Image) (classes : Vector (Option Class) 12) : Checked (Option (Fin 12)) :=
  if img8 im 2029 = 0xFF then (none, [])
  else
    match finNamed 12 (img8 im 2029) with
    | none => (none, [75])
    | some i => if classes[i] = some .starter then (some i, []) else (none, [75])

/-- R79: the start unit. -/
def checkStart (im : Image) (classes : Vector (Option Class) 12) : Checked (Option StartCfg) :=
  if img8 im 2028 = 0xFF then (none, [])
  else
    match finNamed 12 (img8 im 2028) with
    | none => (none, [75])
    | some i =>
      if startInRange (startItems im i) ∧ classes[i] = some .engine then
        (some { startItems im i with starter := (checkStarter im classes).1 }, (checkStarter im classes).2)
      else (none, [75])

/-! ### 10: spectrum units (R97) -/

/-- R97: an owner that is enabled and not taken by an earlier unit. -/
def spectrumOwner (im : Image) (chans : Vector (Option ChanCfg) 24) (units : Vector (Option SpecCfg) 4)
    (a : Nat) : Option (Fin 24) :=
  match finNamed 24 (img8 im a) with
  | none => none
  | some c =>
    if chans[c].isSome ∧ ¬ units.toList.any (fun o => match o with | none => false | some x => decide (x.owner = c))
    then some c else none

/-- R97: one unit checked after the earlier ones. -/
def checkSpectrum (im : Image) (bands : Vector BandTable 10) (chans : Vector (Option ChanCfg) 24)
    (acc : Checked (Vector (Option SpecCfg) 4)) (u : Fin 4) : Checked (Vector (Option SpecCfg) 4) :=
  let a := 1990 + 5 * u.val
  if img8 im a = 0xFF then acc
  else
    match spectrumOwner im chans acc.1 a with
    | none => (acc.1, acc.2 ++ [76 + u.val])
    | some c =>
      let ps := axisPairings im bands (a + 1)
      if allSound ps then
        (acc.1.set u
          (some
            { owner := c
              axes :=
                some (Fin.ofNat 14 (img8 im (a + 1)), Fin.ofNat 10 (img8 im (a + 2)), Fin.ofNat 14 (img8 im (a + 3)),
                  Fin.ofNat 10 (img8 im (a + 4))) }), acc.2)
      else (acc.1.set u (some { owner := c, axes := none }), acc.2 ++ pairingRaise (76 + u.val) ps)

/-- R97: the spectrum units in unit order. -/
def checkSpectra (im : Image) (bands : Vector BandTable 10) (chans : Vector (Option ChanCfg) 24) :
    Checked (Vector (Option SpecCfg) 4) :=
  (List.finRange 4).foldl (checkSpectrum im bands chans) (Vector.replicate 4 none, [])

/-! ### 11: part-wide items (R156) -/

/-- R156: an item outside its range takes its default and raises its number. -/
def rangedItem (inRange : Bool) (value default item : Nat) : Checked Nat :=
  if inRange then (value, []) else (default, [item])

/-- R134, R156: the checkpoint interval. -/
def checkInterval (im : Image) : Checked Nat :=
  rangedItem (decide (600 ≤ img16 im 12) && decide (img16 im 12 ≤ 36000)) (img16 im 12) 3000 92

/-- R156: the quiet time. -/
def checkQuiet (im : Image) : Checked Nat :=
  rangedItem (decide (10 ≤ img16 im 14) && decide (img16 im 14 ≤ 600)) (img16 im 14) 50 93

/-- R156: the summary period. -/
def checkSummary (im : Image) : Checked Nat :=
  rangedItem (decide (5 ≤ img8 im 16) && decide (img8 im 16 ≤ 100)) (img8 im 16) 10 94

/-- R156: the station number. -/
def checkStation (im : Image) : Checked Nat := rangedItem (decide (img8 im 8 ≤ 15)) (img8 im 8) 15 95

/-- R156: the identifier base. -/
def checkBase (im : Image) : Checked Nat :=
  rangedItem (decide (img32 im 4 ≤ 0x1FFFFF00) && decide (img32 im 4 % 256 = 0)) (img32 im 4) 0x18F00000 96

/-- R156: the bit rate. -/
def checkBitRate (im : Image) : Checked BitRate :=
  match bitRateNamed (img8 im 9) with
  | some r => (r, [])
  | none => (.k250, [97])

/-! ### The whole image (Table 9-3) -/

/-- The raises of a vector of checks, in order. -/
def raisesOf {α : Type} {n : Nat} (f : Fin n → Checked α) : List Nat := (List.finRange n).flatMap fun i => (f i).2

/-- R155, R156: the running configuration of a valid image and the CFG_ITEM raises of its checks. -/
def checkImage (im : Image) : Checked RunConfig :=
  let classes : Vector (Option Class) 12 := Vector.ofFn fun n => (checkClass im n).1
  let bands : Vector BandTable 10 := Vector.ofFn fun t => (checkBand im t).1
  let pulseA := checkPulse im 2010 24
  let pulseB := checkPulse im 2019 25
  let ignUsed := decide (img8 im 10 ≠ 0)
  let sources :=
    checkPriorities
      { entries := Vector.ofFn fun n => (checkEntry im n).1, pulseA := pulseA.1, pulseB := pulseB.1
        ign := if ignUsed then some (img8 im 11) else none }
  let maps : Vector WeightMap 6 := Vector.ofFn fun m => (checkMap im bands m).1
  let factors : Vector FactorTable 3 := Vector.ofFn fun t => (checkFactor im bands t).1
  let chans := checkChannels im classes maps factors
  let start := checkStart im classes
  let spectra := checkSpectra im bands chans.1
  ({ fallback := false
     layout := img16 im 2
     station := (checkStation im).1
     base := (checkBase im).1
     bitRate := (checkBitRate im).1
     ignUsed := ignUsed
     ignPrio := sources.1.ign
     entries := sources.1.entries
     identity := Vector.ofFn fun n => (checkIdentity im n).1
     classes := classes
     bands := bands
     maps := maps
     factors := factors
     channels := chans.1
     spectra := spectra.1
     pulseA := sources.1.pulseA
     pulseB := sources.1.pulseB
     start := start.1
     interval := (checkInterval im).1
     quiet := (checkQuiet im).1
     summary := (checkSummary im).1
     faultMasks := BitVec.ofNat 16 (img16 im 17)
     dueMasks := BitVec.ofNat 24 (img24 im 19) },
    (List.finRange 12).flatMap (slotRaises im) ++ raisesOf (checkBand im) ++ raisesOf (checkEntry im) ++
      (pulseA.2 ++ pulseB.2) ++ sources.2 ++ raisesOf (checkMap im bands) ++ raisesOf (checkFactor im bands) ++
      chans.2 ++ start.2 ++ spectra.2 ++
      ((checkInterval im).2 ++ (checkQuiet im).2 ++ (checkSummary im).2 ++ (checkStation im).2 ++
        (checkBase im).2 ++ (checkBitRate im).2))

/-- R130, R155: the image is used: not blank, its check word holds and its format version is 1. -/
def imageValid (bs : List Byte) : Bool :=
  !recordBlank bs && checkHolds bs && decide (leNat (bs.take 2) = 1)

end Sys2Proof.Machine
end

