-- ==== Sys2Proof/Machine/Loading.lean ====
section
/-! DEFINITION. LOADING: the cold start from the store, the layout closes and the end of LOADING (R75, R93,
R106, R124 to R127, R142 to R145, R152, R154, R177). -/

namespace Sys2Proof.Machine

/-! ### The journal scan (R142) -/

/-- R142: the better of a selection and the next slot: the higher sequence, the earlier slot when equal. -/
def betterSlot (m : List Host.Cell) (best : Option (Fin 11 × Nat)) (j : Fin 11) : Option (Fin 11 × Nat) :=
  match slotAt m j, best with
  | .blank, b => b
  | .torn, b => b
  | .valid seq, none => some (j, seq)
  | .valid seq, some b => if b.2 < seq then some (j, seq) else some b

/-- R142: the selected slot with its sequence. -/
def selectSlot (m : List Host.Cell) : Option (Fin 11 × Nat) := (List.finRange 11).foldl (betterSlot m) none

/-- R142: the selected checkpoint with its slot. -/
def selectCheckpoint (m : List Host.Cell) : Option (Fin 11 × Checkpoint) :=
  (selectSlot m).map fun x => (x.1, checkpointAt m x.1)

/-- R142: the lowest journal slot that is not blank. -/
def lowestUsed (m : List Host.Cell) : Option (Fin 11) :=
  (List.finRange 11).find? fun (j : Fin 11) => decide (slotAt m j ≠ .blank)

/-- R142: the slot a STORE_TORN of the journal scan names, given the selected slot. -/
def tornSlot (m : List Host.Cell) (sel : Option (Fin 11 × Nat)) : Option (Fin 11) :=
  match sel with
  | some (j, _) => if slotAt m (j + 1) = .torn then some (j + 1) else none
  | none => lowestUsed m

/-- R142: STORE_TORN raised and torn slots one higher. -/
def countTorn (j : Fin 11) (s : State) : State :=
  raise .storeTorn (some (slotIndex j)) (s.setStore { s.store with torn := satAdd max16 s.store.torn 1 })

/-- R143: UNCLOSED raised and unclosed cycles one higher. -/
def countUnclosed (j : Fin 11) (s : State) : State :=
  raise .unclosed (some (slotIndex j)) (s.setStore { s.store with unclosed := satAdd max16 s.store.unclosed 1 })

/-! ### The open attempt (R93) -/

/-- R93: the checkpoint's component records with its open attempt settled: the record that its open-attempt flag
names gains one unresolved attempt and loses the mark, as an entry's tallies do. -/
def settleAttempt (c : Checkpoint) : Checkpoint :=
  match c.openAttempt with
  | none => c
  | some i =>
    { c with
      openAttempt := none
      components := c.components.set i { c.components[i] with tallies := entryTallies c.components[i].tallies } }

/-! ### Records out of LOADING -/

/-- R127, log 28: the tallies a slot carries under the configuration, loaded where their kind is the same. -/
def talliesFor (cfg : RunConfig) (i : Fin 12) (loaded : Tallies) : Tallies :=
  match cfg.start with
  | none => .none
  | some sc =>
    if sc.engine = i then
      match loaded with
      | .engine t => .engine t
      | .none => .engine EngineTallies.zero
      | .starter _ => .engine EngineTallies.zero
    else if sc.starter = some i then
      match loaded with
      | .starter t => .starter t
      | .none => .starter StarterTallies.zero
      | .engine _ => .starter StarterTallies.zero
    else .none

/-- The checkpoint's record of a slot that holds nothing. -/
def CkptComponent.zero : CkptComponent :=
  { cls := none, identity := none, generation := 0, install := 0, tallies := .none, bound := [] }

/-- R127: the component record of a slot, from the checkpoint's record for it. -/
def loadComponent (cfg : RunConfig) (i : Fin 12) (x : CkptComponent) : Component :=
  match cfg.classes[i] with
  | none => Component.zero
  | some _ =>
    { state := if x.identity.isSome || cfg.identity[i].isNone then .present else .unidentified
      identity := x.identity
      candidate := none
      confirm := 0
      generation := x.generation
      install := x.install
      tallies := talliesFor cfg i x.tallies }

/-- R127: the component record of a slot that starts afresh. -/
def freshComponent (cfg : RunConfig) (i : Fin 12) (keyCycles : Nat) : Component :=
  loadComponent cfg i { CkptComponent.zero with install := keyCycles }

/-- A channel record of zeros. -/
def CkptChannel.zero : CkptChannel :=
  { hours := 0, estHours := 0, wear := 0, episodes := 0, revs := 0, hourPre := 0, estPre := 0, wearAcc := 0,
    clip := 0, satReported := false }

/-- R75: a channel's record out of LOADING, from the checkpoint's record for it. -/
def loadChannel (cfg : RunConfig) (c : Fin 24) (x : CkptChannel) : Channel :=
  match cfg.channels[c] with
  | none => Channel.disabled
  | some cc =>
    let ch : Channel :=
      { Channel.disabled with
        state := .idle, hours := x.hours, estHours := x.estHours, wear := x.wear, episodes := x.episodes,
        revs := x.revs, hourPre := x.hourPre, estPre := x.estPre, wearAcc := x.wearAcc, clip := x.clip,
        satReported := x.satReported }
    { ch with saturated := anySaturated ch, due := dueTest cc ch }

/-- R106: a spectrum unit's record out of LOADING. -/
def loadSpectrum (cfg : RunConfig) (u : Fin 4) (x : Spectrum) : Spectrum :=
  match cfg.spectra[u] with
  | none => Spectrum.zero
  | some _ => x

/-! ### Layout closes (R126, R144) -/

/-- The channel record of a layout close, from the checkpoint. -/
def ckptEntryChan (c : Checkpoint) (n : Fin 24) : EntryChan :=
  let x := c.channels[n]
  { number := some n, hours := x.hours, estHours := x.estHours, wear := x.wear, episodes := x.episodes,
    revs := x.revs }

/-- R126: the entry of a layout close; its sequence is set when the close is made. -/
def layoutEntry (c : Checkpoint) (i : Fin 12) : Option HistEntry :=
  let x := c.components[i]
  match x.cls with
  | none => none
  | some cls =>
    some
      { seq := 0, slot := i, cls := cls, identity := x.identity, generation := x.generation, install := x.install,
        closeKey := c.keyCycles, reason := .layoutChange, chans := chanList (x.bound.map (ckptEntryChan c)),
        tallies := entryTallies x.tallies }

/-- R126: the closes of a changed layout, in slot order. -/
def layoutEntries (c : Checkpoint) : List HistEntry := (List.finRange 12).filterMap (layoutEntry c)

/-! ### The cold start -/

/-- What the selected checkpoint gives LOADING. -/
structure Loaded where
  slot : Option (Fin 11)
  ckpt : Option Checkpoint
  same : Bool
  deriving DecidableEq, Repr

/-- R142, R144, R145: the selection under a configuration, its open attempt settled. -/
def loadedFrom (cfg : RunConfig) (m : List Host.Cell) : Loaded :=
  if cfg.fallback then { slot := none, ckpt := none, same := false }
  else
    match selectCheckpoint m with
    | none => { slot := none, ckpt := none, same := false }
    | some (j, c) => { slot := some j, ckpt := some (settleAttempt c), same := decide (c.layout = cfg.layout) }

/-- The checkpoint whose counts are loaded: the selected one under an unchanged layout. -/
def Loaded.counts (l : Loaded) : Option Checkpoint := if l.same then l.ckpt else none

/-- A part of the selected checkpoint, or a value where there is none. -/
def fromCheckpoint {α : Type} (c : Option Checkpoint) (f : Checkpoint → α) (d : α) : α :=
  match c with
  | none => d
  | some c => f c

/-- The part of the state that LOADING sets up before its first raise and the records it loads (steps 2, 3 and 7
of section 8.5): every block at its cold-start values. The store, the input lines, the waiting commands and
the supply of free values are not touched. -/
def setUp (cfg : RunConfig) (l : Loaded) (s : State) : State :=
  let keyCycles := fromCheckpoint l.ckpt (·.keyCycles) 0
  let sources : Vector Source 27 := Vector.replicate 27 Source.initial
  let chans : Vector Channel 24 :=
    Vector.ofFn fun (c : Fin 24) => loadChannel cfg c (fromCheckpoint l.counts (fun k => k.channels[c]) CkptChannel.zero)
  { cfg := cfg
    lines := s.lines
    power := { Power.initial with keyCycles := keyCycles }
    cap := { rx := [], sources := sources, board := freshBoard cfg sources }
    pulseA := { PulseUnit.initial with lifetime := fromCheckpoint l.ckpt (·.lifetimeA) 0 }
    pulseB := { PulseUnit.initial with lifetime := fromCheckpoint l.ckpt (·.lifetimeB) 0 }
    chans := chans
    start := StartUnit.initial
    spectra :=
      Vector.ofFn fun (u : Fin 4) =>
        loadSpectrum cfg u (fromCheckpoint l.counts (fun k => k.spectra[u]) Spectrum.zero)
    comps :=
      { slots :=
          Vector.ofFn fun (i : Fin 12) =>
            match l.counts with
            | some k => loadComponent cfg i k.components[i]
            | none => freshComponent cfg i keyCycles
        queue := [], index := [], nextSeq := 0, layoutLeft := [] }
    faults :=
      { FaultUnit.initial with
        record := fromCheckpoint l.ckpt (·.faults) FaultRecord.zero
        dueSet := vecMap (fun _ (ch : Channel) => ch.due) chans }
    store :=
      { StoreCtl.initial with
        newest := l.slot
        newestSeq := fromCheckpoint l.ckpt (·.seq) 0
        lastIssued := fromCheckpoint l.ckpt (·.seq) 0
        unclosed := fromCheckpoint l.ckpt (·.unclosed) 0
        torn := fromCheckpoint l.ckpt (·.torn) 0 }
    nvm := s.nvm
    bus := Bus.initial
    freeCount := s.freeCount
    pending := s.pending }

/-- R142, R143: the raises of the journal scan. -/
def raiseJournal (l : Loaded) (s : State) : State :=
  if s.cfg.fallback then s
  else
    let s1 := match tornSlot s.nvm (selectSlot s.nvm) with | none => s | some j => countTorn j s
    match l.slot, l.ckpt with
    | some j, some c => if c.orderly then s1 else countUnclosed j s1
    | _, _ => s1

/-- The lowest number of a list. -/
def lowest : List Nat → Option Nat
  | [] => none
  | n :: r =>
    match lowest r with
    | none => some n
    | some m => some (min n m)

/-- R155, R156, R170: CFG_INVALID present and raised, or CFG_ITEM raised for each item. -/
def raiseConfig (items : List Nat) (s : State) : State :=
  if s.cfg.fallback then
    raise .cfgInvalid (some 43) (s.setFaults { s.faults with cfgInvalid := some (some 43) })
  else raiseEach .cfgItem items (s.setFaults { s.faults with cfgItem := (lowest items).map some })

/-- R126: the layout closes LOADING has still to make. -/
def planCloses (l : Loaded) (s : State) : State :=
  match l.ckpt with
  | none => s
  | some c => if l.same then s else s.setComps { s.comps with layoutLeft := layoutEntries c }

/-- R124 to R126: the scan, the reconciliation and the plan of the layout closes. -/
def loadHistory (l : Loaded) (s : State) : State :=
  planCloses l
    (reconcile (fromCheckpoint l.ckpt (·.queue) []) (scanHistory (fromCheckpoint l.ckpt (·.nextSeq) 0) s))

/-- The image that block 0 holds. -/
def imageOf (m : List Host.Cell) : Image := memRead m

/-- R155: the running configuration and the CFG_ITEM raises. -/
def readImage (m : List Host.Cell) : Checked RunConfig :=
  if imageValid (memSlice m 0 2048) then checkImage (imageOf m) else (RunConfig.fallbackConfig, [])

/-- R152, R154 and section 8.5: LOADING begun at its start; its reads take no commands (assumption log 31). -/
def coldStart (s : State) : State :=
  let img := readImage s.nvm
  let l := loadedFrom img.1 s.nvm
  loadHistory l (raiseConfig img.2 (raiseJournal l (setUp img.1 l s)))

/-! ### The closes and the end of LOADING -/

/-- R115, R126, R144: a layout close made: its sequence given, its entry queued, a normal request raised. -/
def makeLayoutClose (e : HistEntry) (rest : List HistEntry) (s : State) : State :=
  appendEntry { e with seq := s.comps.nextSeq } (s.setComps { s.comps with layoutLeft := rest })

/-- R126: the next layout close; none is made once the next sequence number has reached its end. -/
def layoutClose (e : HistEntry) (rest : List HistEntry) (s : State) : State :=
  if s.comps.nextSeq < max32 then makeLayoutClose e rest s
  else s.setComps { s.comps with layoutLeft := rest }

/-- R154: the start-up sequence is complete. -/
def loadingDone (s : State) : Bool :=
  decide (s.power.state = .loading) && s.comps.layoutLeft.isEmpty && s.comps.queue.isEmpty && s.store.port.isNone

/-- R154: the wake cause found at the end of LOADING. -/
def loadingCause (s : State) : WakeCause :=
  if s.lines.ign then .ign
  else if s.lines.wake then .bus
  else
    match s.power.pulseWake with
    | some .a => .pulseA
    | some .b => .pulseB
    | none => .none

/-- R154: the end of LOADING. -/
def endLoading (s : State) : State :=
  let s1 := s.setPower { s.power with ramValid := true, keyOpen := false, cause := loadingCause s }
  match loadingCause s with
  | .none => parkedEntry s1
  | .ign => activeEntry false s1
  | .bus => activeEntry false s1
  | .pulseA => activeEntry false s1
  | .pulseB => activeEntry false s1

/-! ### Loss of the supply (R141, R152; assumption log 12) -/

/-- RAM as a part without supply holds it. -/
def lostState (s : State) : State :=
  { State.reset with
    lines := s.lines
    power := { Power.initial with state := .unsupplied }
    cap := { rx := [], sources := Vector.replicate 27 Source.initial, board := Vector.replicate 14 BoardSig.absent }
    chans := Vector.replicate 24 Channel.disabled
    comps := { slots := Vector.replicate 12 Component.zero, queue := [], index := [], nextSeq := 0, layoutLeft := [] }
    faults := FaultUnit.initial
    nvm := s.nvm
    freeCount := s.freeCount
    pending := s.pending }

end Sys2Proof.Machine
end

