-- ==== Sys2Proof/Machine/Requests.lean ====
section
/-! DEFINITION. The request slot: the checks of R188 and what each request does once it is taken (R119, R187 to R192). -/

namespace Sys2Proof.Machine

/-! ### The checks of R188 -/

/-- R188 check 3: ROAD_SPEED is usable with value 0. -/
def standstill (s : State) : Bool :=
  usable s.cap.board[sRoadSpeed].state && decide (s.cap.board[sRoadSpeed].value = 0)

/-- R188 check 2: the requests answered FALLBACK under the fallback configuration. -/
def fallbackRefuses (code : Nat) : Bool :=
  decide (code = 9) || decide (code = 10) || decide (code = 11) || decide (code = 13)

/-- R188 check 3: the requests that need standstill; WRITE CONFIG does not under the fallback configuration. -/
def needsStandstill (cfg : RunConfig) (code : Nat) : Bool :=
  decide (code = 9) || decide (code = 10) || decide (code = 11) || (decide (code = 14) && !cfg.fallback)

/-- R188: the first of checks 1 to 3 that fails, for one of the fourteen codes. -/
def requestRefusal (code : Nat) (params : List Byte) (s : State) : Option Result :=
  if params.length < paramLength code then some .badRequest
  else if s.cfg.fallback && fallbackRefuses code then some .fallback
  else if needsStandstill s.cfg code && !standstill s then some .refusedMotion
  else none

/-- R187: a request frame with a known code at the slot: taken in IDLE and checked, answered BUSY otherwise. -/
def takeRequest (code : Nat) (params : List Byte) (serve : State → State) (s : State) : State :=
  match s.bus.slot with
  | .idle =>
    match requestRefusal code params s with
    | some r => answerResult code r s
    | none => serve s
  | .waitingStore _ _ => queueFrame (busyFrame s.cfg code) s
  | .sending => queueFrame (busyFrame s.cfg code) s

/-- The code that the first data byte holds, 0 where there is none (R194). -/
def codeOf (data : List Byte) : Nat :=
  match data with
  | [] => 0
  | c :: _ => c.toNat

/-- R187, R188: a request frame without a data byte or with an unknown code. -/
def takeUnknown (data : List Byte) (s : State) : State :=
  match s.bus.slot with
  | .idle => answerResult (codeOf data) .badRequest s
  | .waitingStore _ _ => queueFrame (busyFrame s.cfg (codeOf data)) s
  | .sending => queueFrame (busyFrame s.cfg (codeOf data)) s

/-- R187: WAITING_STORE with a store request. -/
def waitStore (req : StoreReq) (s : State) : State := s.setBus { s.bus with slot := .waitingStore req false }

/-! ### Reading requests (R190, R191) -/

/-- READ SIGNAL. -/
def serveReadSignal (params : List Byte) (s : State) : State :=
  match param8 params 0 with
  | 0 =>
    match finNamed 14 (param8 params 1) with
    | some i => answerRead 1 1 16 (signalBlock s i) s
    | none => answerResult 1 .noSuch s
  | 1 =>
    match finNamed 27 (param8 params 1) with
    | some x => answerRead 1 1 16 (sourceBlock s x) s
    | none => answerResult 1 .noSuch s
  | _ => answerResult 1 .badRequest s

/-- READ CHANNEL. -/
def serveReadChannel (params : List Byte) (s : State) : State :=
  match finNamed 24 (param8 params 0) with
  | none => answerResult 2 .noSuch s
  | some c =>
    match s.cfg.channels[c] with
    | none => answerResult 2 .noSuch s
    | some _ => answerRead 2 4 12 (channelBlock s.chans[c]) s

/-- READ COMPONENT. -/
def serveReadComponent (params : List Byte) (s : State) : State :=
  match finNamed 12 (param8 params 0) with
  | none => answerResult 3 .noSuch s
  | some i =>
    match s.cfg.classes[i] with
    | none => answerResult 3 .noSuch s
    | some cls => answerRead 3 3 20 (componentBlock s i cls) s

/-- READ SPECTRUM; a unit number above 3 is answered NO_SUCH like a unit that is not in use (assumption log 44). -/
def serveReadSpectrum (params : List Byte) (s : State) : State :=
  match finNamed 4 (param8 params 0) with
  | none => answerResult 4 .noSuch s
  | some u =>
    match s.cfg.spectra[u] with
    | none => answerResult 4 .noSuch s
    | some sc =>
      if param8 params 1 ≤ 56 then answerRead 4 5 8 (spectrumBlock sc s.spectra[u] (param8 params 1)) s
      else answerResult 4 .noSuch s

/-- READ HISTORY. -/
def serveReadHistory (params : List Byte) (s : State) : State :=
  if param8 params 0 ≤ 31 then waitStore (.readHistory (param8 params 0)) s else answerResult 5 .noSuch s

/-- READ FAULTS. -/
def serveReadFaults (s : State) : State := answerRead 6 3 16 (faultsBlock s) s

/-- READ CONFIG. -/
def serveReadConfig (params : List Byte) (s : State) : State :=
  if param16 params 0 ≤ 511 then waitStore (.readConfig (param16 params 0)) s else answerResult 7 .noSuch s

/-! ### Commanding requests (R119, R191, R192) -/

/-- The kinds that a kind set names (R195). -/
def namedKinds (set : Nat) (k : FaultKind) : Bool := bitOf set (kindIndex k).val

/-- ACK FAULTS. -/
def serveAckFaults (params : List Byte) (s : State) : State :=
  if param16 params 0 < 16384 then answerResult 8 .done (acknowledge (namedKinds (param16 params 0)) s)
  else answerResult 8 .badRequest s

/-- PRESET CHANNEL. -/
def servePresetChannel (params : List Byte) (s : State) : State :=
  match finNamed 24 (param8 params 0) with
  | none => answerResult 9 .noSuch s
  | some c =>
    match s.cfg.channels[c] with
    | none => answerResult 9 .noSuch s
    | some _ =>
      match quantityNamed (param8 params 1) with
      | none => answerResult 9 .badRequest s
      | some q =>
        answerResult 9 .accepted (requestNormal (s.setChan c (stagePreset q (param32 params 2) s.chans[c])))

/-- CLOSE COMPONENT. -/
def serveCloseComponent (params : List Byte) (s : State) : State :=
  match finNamed 12 (param8 params 0) with
  | none => answerResult 10 .noSuch s
  | some i =>
    match s.cfg.classes[i] with
    | none => answerResult 10 .noSuch s
    | some cls =>
      if canClose s then answerResult 10 .done (closeSlot i cls .serviceClose none s)
      else answerResult 10 .queueFull s

/-- SET IDENTITY. -/
def serveSetIdentity (params : List Byte) (s : State) : State :=
  match finNamed 12 (param8 params 0) with
  | none => answerResult 11 .noSuch s
  | some i =>
    match s.cfg.classes[i] with
    | none => answerResult 11 .noSuch s
    | some cls =>
      if param32 params 1 = 0xFFFFFFFF then answerResult 11 .badRequest s
      else if canClose s then
        answerResult 11 .done (closeSlot i cls .serviceIdentity (some (param32 params 1)) s)
      else answerResult 11 .queueFull s

/-- CHECKPOINT NOW. -/
def serveCheckpointNow (s : State) : State := answerResult 12 .accepted (requestNormal s)

/-- WIPE HISTORY. -/
def serveWipeHistory (s : State) : State :=
  if s.store.wipePending || s.store.wipeRunning then answerResult 13 .busy s
  else answerResult 13 .accepted (s.setStore { s.store with wipePending := true })

/-- WRITE CONFIG. -/
def serveWriteConfig (params : List Byte) (s : State) : State :=
  if param16 params 0 ≤ 511 then
    waitStore (.writeConfig (param16 params 0) ((params.drop 2).take 4)) s
  else answerResult 14 .noSuch s

/-! ### A request frame -/

/-- R187 to R192: the data of a request frame at the request slot. -/
def serveRequest (data : List Byte) (s : State) : State :=
  let params := data.drop 1
  match codeOf data with
  | 1 => takeRequest 1 params (serveReadSignal params) s
  | 2 => takeRequest 2 params (serveReadChannel params) s
  | 3 => takeRequest 3 params (serveReadComponent params) s
  | 4 => takeRequest 4 params (serveReadSpectrum params) s
  | 5 => takeRequest 5 params (serveReadHistory params) s
  | 6 => takeRequest 6 params serveReadFaults s
  | 7 => takeRequest 7 params (serveReadConfig params) s
  | 8 => takeRequest 8 params (serveAckFaults params) s
  | 9 => takeRequest 9 params (servePresetChannel params) s
  | 10 => takeRequest 10 params (serveCloseComponent params) s
  | 11 => takeRequest 11 params (serveSetIdentity params) s
  | 12 => takeRequest 12 params serveCheckpointNow s
  | 13 => takeRequest 13 params serveWipeHistory s
  | 14 => takeRequest 14 params (serveWriteConfig params) s
  | _ => takeUnknown data s

/-- A request event: it reaches bus traffic while the link controller runs (R1, R4). -/
def requestEvent (serve : State → State) (s : State) : Host.Outcome State Fault Refusal :=
  if linkRunning s then finish (serve s) else noEvent s

end Sys2Proof.Machine
end

