-- ==== Sys2Proof/Machine/SupplyCommands.lean ====
section
/-! DEFINITION. The commands of the supply, of RESET and of LOADING (R126, R141, R152 to R154). -/

namespace Sys2Proof.Machine

/-- SUPPLY_APPLIED (R152): a cold start (assumption log 34). -/
def execSupplyApplied (s : State) : Host.Outcome State Fault Refusal := finish (coldStart s)

/-- SUPPLY_LOSS (R141): RAM lost, the operation in flight cut. -/
def execSupplyLoss (cut : Deviation) (s : State) : Host.Outcome State Fault Refusal :=
  match s.power.state with
  | .unsupplied => noEvent s
  | .loading => finish (lostState (cutOperation cut s))
  | .parked => finish (lostState (cutOperation cut s))
  | .waking => finish (lostState (cutOperation cut s))
  | .active => finish (lostState (cutOperation cut s))
  | .closing => finish (lostState (cutOperation cut s))

/-- R152: RESET by the RAM-valid marker. -/
def resetPart (cut : Deviation) (s : State) : State :=
  if s.power.ramValid then warmRestart cut s else coldStart (cutOperation cut s)

/-- RESET (R152, R153). -/
def execReset (cut : Deviation) (s : State) : Host.Outcome State Fault Refusal :=
  match s.power.state with
  | .unsupplied => noEvent s
  | .loading => finish (resetPart cut s)
  | .parked => finish (resetPart cut s)
  | .waking => finish (resetPart cut s)
  | .active => finish (resetPart cut s)
  | .closing => finish (resetPart cut s)

/-- R126: a layout close can be taken now: the queue has room, or no close can be made any more. -/
def closeReady (s : State) : Bool :=
  decide (s.power.state = .loading) &&
    (decide (s.comps.queue.length < 4) || !decide (s.comps.nextSeq < max32))

/-- LAYOUT_CHANGE_CLOSE (R126): one close (assumption log 30). -/
def execLayoutChangeClose (s : State) : Host.Outcome State Fault Refusal :=
  match s.comps.layoutLeft with
  | [] => noEvent s
  | e :: rest => if closeReady s then finish (layoutClose e rest s) else noEvent s

/-- LOADING_END (R154). -/
def execLoadingEnd (s : State) : Host.Outcome State Fault Refusal :=
  if loadingDone s then finish (endLoading s) else noEvent s

end Sys2Proof.Machine
end

