-- ==== Sys2Proof/Machine/PowerCommands.lean ====
section
/-! DEFINITION. The commands of the IGN and WAKE lines, the supply warning, the settle and quiet timers (R14,
R158, R160, R163, R164). -/

namespace Sys2Proof.Machine

/-- R160: the quiet timer restarted. -/
def restartQuiet (s : State) : State := s.setPower { s.power with quietCount := 0 }

/-- R14, R163: an IGN change in CLOSING; a rising edge abandons it, and signal capture takes the change before
or after (assumption log 6). -/
def ignInClosing (high captureFirst : Bool) (s : State) : State :=
  if high then if captureFirst then abandonClosing (ignFresh s) else ignFresh (abandonClosing s)
  else ignFresh s

/-- R14, R158, R160, R163: an IGN change by power state. -/
def ignChanged (high captureFirst : Bool) (s : State) : State :=
  match s.power.state with
  | .unsupplied => s
  | .loading => s
  | .parked => if high then wakeEvent .ign s else s
  | .waking => s
  | .active => ignFresh (if high then restartQuiet s else s)
  | .closing => ignInClosing high captureFirst s

/-- IGN_LINE_CHANGE (R14, R158, R163); the level it already has is no event (assumption log 4). -/
def execIgnLineChange (high captureFirst : Bool) (s : State) : Host.Outcome State Fault Refusal :=
  if s.lines.ign = high then noEvent s
  else finish (ignChanged high captureFirst (s.setLines { s.lines with ign := high }))

/-- R158: the WAKE line going active in PARKED is a wake event. -/
def wakeChanged (active : Bool) (s : State) : State :=
  if active ∧ s.power.state = .parked then wakeEvent .bus s else s

/-- WAKE_LINE_ACTIVE (R158); the operand is the level, so that the line can also fall (assumption log 4). -/
def execWakeLineActive (active : Bool) (s : State) : Host.Outcome State Fault Refusal :=
  if s.lines.wake = active then noEvent s
  else finish (wakeChanged active (s.setLines { s.lines with wake := active }))

/-- SETTLE_TIMER_EXPIRY (R158). -/
def execSettleTimerExpiry (s : State) : Host.Outcome State Fault Refusal :=
  if s.power.state = .waking ∧ s.power.settle then finish (activeEntry false s) else noEvent s

/-- R164: the supply warning turning active, by power state. -/
def warningTurned (s : State) : State :=
  match s.power.state with
  | .unsupplied => s
  | .loading => s
  | .parked => s
  | .waking => requestUrgent s
  | .active => requestUrgent s
  | .closing => requestOrderly s

/-- SUPPLY_WARNING (R164); turning inactive is not acted on. -/
def execSupplyWarning (active : Bool) (s : State) : Host.Outcome State Fault Refusal :=
  if s.lines.warning = active then noEvent s
  else
    let s1 := s.setLines { s.lines with warning := active }
    finish (if active then warningTurned s1 else s1)

/-- R160: the quiet timer has expired. -/
def quietExpired (s : State) : Bool :=
  isActive s && s.power.quietRunning && decide (s.cfg.quiet ≤ s.power.quietCount)

/-- QUIET_TIMER_EXPIRY (R160, R161). -/
def execQuietTimerExpiry (s : State) : Host.Outcome State Fault Refusal :=
  if quietExpired s then finish (if closingCondition s then enterClosing s else restartQuiet s) else noEvent s

end Sys2Proof.Machine
end

