-- ==== Sys2Proof/Machine/CaptureCommands.lean ====
section
/-! DEFINITION. The commands of signal capture: a frame arrives, a frame is taken, source timers expire (R1 to
R5, R10 to R12, R163, R181). -/

namespace Sys2Proof.Machine

/-- R1: the link controller receives: ACTIVE or CLOSING, LINK_ACTIVE or LINK_PASSIVE, and no LINK_OFF that has not
yet returned to LINK_ACTIVE (assumption log 25). -/
def receiving (s : State) : Bool := linkRunning s && decide (s.bus.link ≠ .off) && s.faults.linkOff.isNone

/-- R1, R2: a frame at the receive queue. -/
def receiveFrame (f : Frame) (s : State) : State :=
  if s.cap.rx.length < 16 then s.setCap { s.cap with rx := s.cap.rx ++ [f] } else raise .rxOverrun none s

/-- R1, R160, R163, R181: an arrival reported to power control and bus traffic; in CLOSING the two reports are
taken in either order (assumption log 6). -/
def reportArrival (busFirst : Bool) (s : State) : State :=
  match s.power.state with
  | .closing => if busFirst then abandonClosing (openGate s) else openGate (abandonClosing s)
  | .active => openGate (restartQuiet s)
  | .unsupplied => s
  | .loading => s
  | .parked => s
  | .waking => s

/-- FRAME_ARRIVAL (R1, R2). -/
def execFrameArrival (f : Frame) (busFirst : Bool) (s : State) : Host.Outcome State Fault Refusal :=
  if receiving s then finish (reportArrival busFirst (receiveFrame f s)) else noEvent s

/-- R4: this station's request frame. -/
def isRequest (cfg : RunConfig) (f : Frame) : Bool := f.ext && decide (f.ident = cfg.base + cfg.station)

/-- R5: the identity field of a slot in a frame. -/
def identityIn (cfg : RunConfig) (f : Frame) (i : Fin 12) : Option Nat :=
  match cfg.identity[i] with
  | none => none
  | some src =>
    if src.ext = f.ext ∧ src.ident = f.ident ∧ src.offset + 4 ≤ f.data.length then
      some (leNat ((f.data.drop src.offset).take 4))
    else none

/-- R5, R111: the identity field of one slot handed over. -/
def takeIdentity (f : Frame) (s : State) (i : Fin 12) : State :=
  match s.cfg.classes[i] with
  | none => s
  | some cls =>
    match identityIn s.cfg f i with
    | none => s
    | some v => identityField i cls v s

/-- R3 step 2: the identity fields of a frame, in slot order. -/
def takeIdentities (f : Frame) (s : State) : State := (List.finRange 12).foldl (takeIdentity f) s

/-- R3 step 3: a map entry that matches a frame. -/
def entryMatching (cfg : RunConfig) (f : Frame) (n : Nat) : Option MapEntry :=
  if h : n < 24 then
    match cfg.entries[n] with
    | none => none
    | some e => if e.ext = f.ext ∧ e.ident = f.ident then some e else none
  else none

/-- R3 step 3: the sources after a frame. -/
def sourcesAfter (cfg : RunConfig) (f : Frame) (xs : Vector Source 27) : Vector Source 27 :=
  vecMap (fun (i : Src) x =>
    match entryMatching cfg f i.val with
    | none => x
    | some e => takeField (decodeField e f.data) (countFrame x)) xs

/-- The signals of the entries that match a frame. -/
def signalsMatching (cfg : RunConfig) (f : Frame) : List Sig :=
  (List.range 24).filterMap fun n => (entryMatching cfg f n).map (·.target)

/-- R10: the signals for which SIG_FAULTED is raised, in entry order. -/
def faultedSignals (cfg : RunConfig) (f : Frame) (xs : Vector Source 27) : List Nat :=
  allSources.filterMap fun i =>
    match entryMatching cfg f i.val with
    | none => none
    | some e => if decodeField e f.data = .error ∧ xs[i].state ≠ .faulted then some e.target.val else none

/-- R3 steps 3 to 5: the map fields of a frame. -/
def takeFields (f : Frame) (s : State) : State :=
  captureEvent (sourcesAfter s.cfg f s.cap.sources) (signalsMatching s.cfg f)
    (raiseEach .sigFaulted (faultedSignals s.cfg f s.cap.sources) s)

/-- R3: a frame dealt with whole, a request served inside it (assumption log 17). -/
def dealWith (f : Frame) (s : State) : State :=
  if isRequest s.cfg f then serveRequest f.data s else takeFields f (takeIdentities f s)

/-- FRAME_TAKEN (R3). -/
def execFrameTaken (s : State) : Host.Outcome State Fault Refusal :=
  match s.cap.rx with
  | [] => noEvent s
  | f :: r => finish (dealWith f (s.setCap { s.cap with rx := r }))

/-- R12: some source timer has reached its limit. -/
def sourceExpiryDue (s : State) : Bool :=
  linkRunning s &&
    (List.finRange 27).any fun (i : Fin 27) =>
      match ageItems s.cfg i with
      | none => false
      | some it => expiring it s.cap.sources[i]

/-- SOURCE_TIMER_EXPIRY (R12): the expiries of one tick, taken together. -/
def execSourceTimerExpiry (s : State) : Host.Outcome State Fault Refusal :=
  if sourceExpiryDue s then
    finish (captureEvent (expireSources s.cfg s.cap.sources) (expiringSignals s.cfg s.cap.sources) s)
  else noEvent s

end Sys2Proof.Machine
end

