-- ==== Sys2Proof/Machine/TickCommands.lean ====
section
/-! DEFINITION. The commands of the accounting tick: the tick itself, channel samples, start-unit steps, the
interval expiry (R12, R19, R27, R55, R82, R89, R134, R160, R168, R183, R184). -/

namespace Sys2Proof.Machine

/-- R27: the ticks of a window timer; it waits at 10 (assumption log 3). -/
def tickWindow (u : PulseUnit) : PulseUnit :=
  if u.running then { u with windowTicks := min 10 (u.windowTicks + 1) } else u

/-- R12, R19: one tick at every source. -/
def tickSources (s : State) : State :=
  s.setCap { s.cap with sources := agePresence s.cfg (ageSources s.cfg s.cap.sources) }

/-- R183, R184: one tick at the summary and status timers, which run while the gate is open. -/
def tickBus (s : State) : State :=
  if s.bus.gate then
    s.setBus
      { s.bus with
        summaryCount := min s.cfg.summary (s.bus.summaryCount + 1)
        statusCount := min 100 (s.bus.statusCount + 1) }
  else s

/-- R168: one elapsed tick. -/
def tickElapsed (s : State) : State := s.setFaults { s.faults with elapsed := satAdd max32 s.faults.elapsed 1 }

/-- What a tick counts in ACTIVE and CLOSING alike. -/
def tickRunning (s : State) : State := tickElapsed (tickBus (tickSources s))

/-- R160: one tick at the quiet timer. -/
def tickQuiet (p : Power) (quiet : Nat) : Power :=
  if p.quietRunning then { p with quietCount := min quiet (p.quietCount + 1) } else p

/-- What a tick counts in ACTIVE alone: quiet timer, interval timer, windows. -/
def tickActive (s : State) : State :=
  let s1 := s.setPower (tickQuiet s.power s.cfg.quiet)
  let s2 := s1.setStore { s1.store with interval := min s1.cfg.interval (s1.store.interval + 1) }
  (s2.setPulseA (tickWindow s2.pulseA)).setPulseB (tickWindow s2.pulseB)

/-- ACCOUNTING_TICK: counts advance and expiries follow as commands of their own (assumption log 3). -/
def execAccountingTick (s : State) : Host.Outcome State Fault Refusal :=
  match s.power.state with
  | .active => finish (tickActive (tickRunning s))
  | .closing => finish (tickRunning s)
  | .unsupplied => noEvent s
  | .loading => noEvent s
  | .parked => noEvent s
  | .waking => noEvent s

/-- R55, R74: one sample of an enabled channel. -/
def sampleEvent (c : Fin 24) (cc : ChanCfg) (s : State) : State :=
  let r := sampleChannel s.cfg s.cap.board cc s.chans[c]
  sendSpectrum c r.2 (commitChannel c cc r.1 s)

/-- CHANNEL_SAMPLE (R55). -/
def execChannelSample (c : Fin 24) (s : State) : Host.Outcome State Fault Refusal :=
  match s.cfg.channels[c] with
  | none => noEvent s
  | some cc => if isActive s then finish (sampleEvent c cc s) else noEvent s

/-- TICK_STEP (R82). -/
def execTickStep (s : State) : Host.Outcome State Fault Refusal :=
  match s.cfg.start with
  | none => noEvent s
  | some sc => if isActive s then finish (tickStep sc s) else noEvent s

/-- STALL_TIMER_EXPIRY (R89): the stall timer has reached the stall window and stops. A tick step that brings it
there stops it in the same step (assumption log 3). -/
def execStallTimerExpiry (s : State) : Host.Outcome State Fault Refusal :=
  match s.cfg.start with
  | none => noEvent s
  | some sc =>
    if s.start.stallRunning ∧ sc.stall ≤ s.start.stallCount then
      finish (s.setStart { s.start with stallRunning := false })
    else noEvent s

/-- CHECKPOINT_INTERVAL_EXPIRY (R134). -/
def execCheckpointIntervalExpiry (s : State) : Host.Outcome State Fault Refusal :=
  if s.power.state ≠ .unsupplied ∧ s.cfg.interval ≤ s.store.interval then
    finish (requestNormal (s.setStore { s.store with interval := 0 }))
  else noEvent s

end Sys2Proof.Machine
end

