-- ==== Sys2Proof/Machine/PulseCommands.lean ====
section
/-! DEFINITION. The commands of the pulse units: counted edges and window ends (R24 to R31, R64). -/

namespace Sys2Proof.Machine

/-- R24: the tooth prescaler wraps at this edge. -/
def wraps (p : PulseCfg) (u : PulseUnit) : Bool := decide (edgesPerRev p ≤ u.prescaler + 1)

/-- R24, R25: the counters of a unit after a counted edge. -/
def countEdge (p : PulseCfg) (u : PulseUnit) : PulseUnit :=
  { u with
    prescaler := if wraps p u then 0 else u.prescaler + 1
    lifetime := satAdd max32 u.lifetime (markBit (wraps p u) 1)
    windowEdges := if u.running then satAdd max24 u.windowEdges 1 else u.windowEdges }

/-- R26, R64: a revolution event at one channel, if it is bound to the unit. -/
def revolveEvent (u : PulseId) (s : State) (c : Fin 24) : State :=
  match s.cfg.channels[c] with
  | none => s
  | some cc => if cc.revSource = some u then commitChannel c cc (revolveChannel s.chans[c]) s else s

/-- R25, R26: a revolution event delivered to each bound channel. Where one wrap saturates several channels, their
COUNTER_SAT raises come in channel order, which R169 leaves to the world (assumption log 15). -/
def revolveAll (u : PulseId) (s : State) : State := (List.finRange 24).foldl (revolveEvent u) s

/-- The wake cause of a pulse unit (R31). -/
def pulseCause : PulseId → WakeCause
  | .a => .pulseA
  | .b => .pulseB

/-- R154: the pulse wake mark; a later edge of the other unit leaves it. -/
def markPulseWake (u : PulseId) (s : State) : State :=
  match s.power.pulseWake with
  | some _ => s
  | none => s.setPower { s.power with pulseWake := some u }

/-- R24 step 3, R31, R160: a counted edge at power control. -/
def reportEdge (u : PulseId) (wake : Bool) (s : State) : State :=
  match s.power.state with
  | .active => restartQuiet s
  | .parked => if wake then wakeEvent (pulseCause u) s else s
  | .loading => if wake then markPulseWake u s else s
  | .unsupplied => s
  | .waking => s
  | .closing => s

/-- R24, R25: a counted edge at a unit, its revolution events and its report. -/
def edgeEvent (u : PulseId) (s : State) : State :=
  let p := pulseCfg s.cfg u
  let turned := wraps p (s.pulse u) && isActive s
  let s1 := s.setPulse u (countEdge p (s.pulse u))
  reportEdge u p.wakeEnable (if turned then revolveAll u s1 else s1)

/-- COUNTED_EDGE (R24); an edge of the kind not selected is ignored (assumption log 5). -/
def execCountedEdge (u : PulseId) (rising : Bool) (s : State) : Host.Outcome State Fault Refusal :=
  if pulseInUse (pulseCfg s.cfg u) && edgeSelected (pulseCfg s.cfg u).edge rising &&
      decide (s.power.state ≠ .unsupplied) then
    finish (edgeEvent u s)
  else noEvent s

/-- R28: the window speed. -/
def windowSpeed (p : PulseCfg) (edges : Nat) : Nat := min 8000 (edges * 60 / edgesPerRev p)

/-- R30: the map entry sources of a signal whose state is FRESH. -/
def freshEntries (cfg : RunConfig) (xs : Vector Source 27) (i : Sig) : List (Src × Nat) :=
  (sourcesOf cfg i).filter fun p => decide (p.1.val < 24) && decide (xs[p.1].state = .fresh)

/-- R30: the value of the bus source. -/
def busSpeed (cfg : RunConfig) (xs : Vector Source 27) (i : Sig) : Option Int :=
  (mostPreferred (freshEntries cfg xs i)).map fun p => xs[p.1].value

/-- R30: the two speeds disagree. -/
def speedsDisagree (tolerance : Nat) (a b : Int) : Bool :=
  decide ((tolerance : Int) * max a b < 100 * (max a b - min a b)) && decide (300 ≤ max a b)

/-- R30: the disagreement count and SIG_DISAGREE. -/
def countDisagreement (u : PulseId) (target : Sig) (differ : Bool) (s : State) : State :=
  let x := s.pulse u
  if differ then
    if x.disagree + 1 < 5 then s.setPulse u { x with disagree := x.disagree + 1 }
    else raise .sigDisagree (some target.val) (s.setPulse u { x with disagree := 0 })
  else s.setPulse u { x with disagree := 0 }

/-- R30: the disagreement check at a window end. -/
def checkDisagreement (u : PulseId) (speed : Nat) (s : State) : State :=
  match pulseItems (pulseCfg s.cfg u) with
  | none => s
  | some it =>
    match busSpeed s.cfg s.cap.sources it.target with
    | none => s
    | some b => countDisagreement u it.target (speedsDisagree (pulseCfg s.cfg u).tolerance (speed : Int) b) s

/-- R27: a new window begins. -/
def newWindow (u : PulseId) (s : State) : State :=
  s.setPulse u { s.pulse u with running := true, windowTicks := 0, windowEdges := 0 }

/-- R28: a window end: the refresh, the disagreement check, a new window. -/
def endWindow (u : PulseId) (s : State) : State :=
  let speed := windowSpeed (pulseCfg s.cfg u) (s.pulse u).windowEdges
  newWindow u (checkDisagreement u speed (refreshPulse u (speed : Int) s))

/-- R27: the 10th tick of the running window has been counted. -/
def windowDone (u : PulseId) (s : State) : Bool :=
  pulseInUse (pulseCfg s.cfg u) && isActive s && (s.pulse u).running && decide (10 ≤ (s.pulse u).windowTicks)

/-- WINDOW_END (R28). -/
def execWindowEnd (u : PulseId) (s : State) : Host.Outcome State Fault Refusal :=
  if windowDone u s then finish (endWindow u s) else noEvent s

end Sys2Proof.Machine
end

