-- ==== Sys2Proof/Machine/BusCommands.lean ====
section
/-! DEFINITION. The commands of bus traffic: link state changes, sent reports, feeders, summary and status
timers (R179 to R185, R189). -/

namespace Sys2Proof.Machine

/-- R182 step 1: the first queued frame whose origin is not SUMMARY. -/
def firstKept (q : List TxFrame) : Option TxFrame := q.find? fun f => decide (f.origin ≠ .summary)

/-- R182 step 1: TX_DROP raised once for a queue emptied at LINK_OFF. -/
def raiseEmptied (q : List TxFrame) (s : State) : State :=
  match firstKept q with
  | none => s
  | some f => raise .txDrop (some (txKindNumber f.kind)) s

/-- R182: the link state and an empty queue. -/
def emptyQueue (s : State) : State := s.setBus { s.bus with link := .off, queue := [], offer := .none }

/-- R182: a change to LINK_OFF. -/
def linkLost (s : State) : State :=
  let s1 := freeSlot (raiseEmptied s.bus.queue (emptyQueue s))
  let s2 := shutGate (s1.setBus { s1.bus with keyList := [] })
  raise .linkOff none (s2.setFaults { s2.faults with linkOff := some none })

/-- R182: a change of the link state. -/
def changeLink (link : LinkState) (s : State) : State :=
  match link with
  | .off => linkLost s
  | .active => endLinkOff (s.setBus { s.bus with link := .active })
  | .passive => s.setBus { s.bus with link := .passive }

/-- LINK_STATE_CHANGE (R182). -/
def execLinkStateChange (link : LinkState) (s : State) : Host.Outcome State Fault Refusal :=
  if linkRunning s ∧ s.bus.link ≠ link then finish (changeLink link s) else noEvent s

/-- R179: steps 1 to 3 of a sent report. -/
def sentHead (f : TxFrame) (rest : List TxFrame) (s : State) : State :=
  let b := { s.bus with queue := rest, offer := .none }
  offerHead (s.setBus (if f.origin = .burst then countSent b else b))

/-- R179: the whole of a sent report, the feeders last. -/
def sentReport (f : TxFrame) (rest : List TxFrame) (s : State) : State :=
  feedKeyList 6 (feedBurst 12 (sentHead f rest s))

/-- FRAME_SENT (R179); a report that finds neither an offered nor a withdrawn frame at the head is ignored. With a
withdrawn frame at the head the command stands for the report of a transmission that had begun before the withdrawal
(assumption log 43). -/
def execFrameSent (s : State) : Host.Outcome State Fault Refusal :=
  match s.bus.queue, s.bus.offer with
  | [], _ => noEvent s
  | _ :: _, .none => noEvent s
  | f :: r, .offered => finish (sentReport f r s)
  | f :: r, .withdrawn => finish (sentReport f r s)

/-- R189: the burst has a frame to feed and the queue has room for it. -/
def burstReady (s : State) : Bool :=
  decide (s.bus.fed < s.bus.burst.length) && decide (s.bus.queue.length ≤ 6)

/-- BURST_FEED (R189): one frame (assumption log 18). -/
def execBurstFeed (s : State) : Host.Outcome State Fault Refusal :=
  if burstReady s then finish (feedOneBurst s) else noEvent s

/-- R185: the key-cycle notice list is not empty and the queue has room. -/
def keyListReady (s : State) : Bool := !s.bus.keyList.isEmpty && decide (s.bus.queue.length ≤ 5)

/-- KEY_CYCLE_NOTICE_FEED (R185): the list tried once (assumption log 18). -/
def execKeyCycleNoticeFeed (s : State) : Host.Outcome State Fault Refusal :=
  if keyListReady s then finish (tryKeyList s) else noEvent s

/-- R183, R184: the timers of the open gate run. -/
def timersRun (s : State) : Bool := s.bus.gate && linkRunning s

/-- R183: the summary of the next enabled channel. -/
def sendSummary (s : State) : State :=
  match nextEnabled s.cfg s.bus.pointer with
  | none => s
  | some c => queueFrame (summaryFrame s c) (s.setBus { s.bus with pointer := c })

/-- SUMMARY_TIMER_EXPIRY (R183). -/
def execSummaryTimerExpiry (s : State) : Host.Outcome State Fault Refusal :=
  if timersRun s ∧ s.cfg.summary ≤ s.bus.summaryCount then
    finish (sendSummary (s.setBus { s.bus with summaryCount := 0 }))
  else noEvent s

/-- R184: a STATUS frame queued. -/
def sendStatus (s : State) : State := queueFrame (statusFrame s) s

/-- STATUS_TIMER_EXPIRY (R184): every 100 ticks. -/
def execStatusTimerExpiry (s : State) : Host.Outcome State Fault Refusal :=
  if timersRun s ∧ 100 ≤ s.bus.statusCount then
    finish (sendStatus (s.setBus { s.bus with statusCount := 0 }))
  else noEvent s

end Sys2Proof.Machine
end

