-- ==== Sys2Proof/Machine/StoreCommands.lean ====
section
/-! DEFINITION. The commands of the store port: begins and completions (R114, R120, R121, R132, R136 to R140,
R146 to R148). -/

namespace Sys2Proof.Machine

/-! ### Checkpoint -/

/-- CHECKPOINT_BEGIN (R136), when R132 chooses it (assumption log 19). -/
def execCheckpointBegin (s : State) : Host.Outcome State Fault Refusal :=
  if portChoice s = .checkpoint then finish (beginCheckpoint s) else noEvent s

/-- A channel with a preset staged at a begin that R132 chooses (assumption log 36). -/
def presetReady (c : Fin 24) (s : State) : Bool :=
  decide (portChoice s = .checkpoint) && s.cfg.channels[c].isSome && s.chans[c].staged.isSome

/-- PRESET_APPLICATION (R70): step 1 of a begin for one channel. -/
def execPresetApplication (c : Fin 24) (s : State) : Host.Outcome State Fault Refusal :=
  if presetReady c s then finish (applyStaged s c) else noEvent s

/-- CHECKPOINT_COMPLETION (R139). -/
def execCheckpointCompletion (dev : Deviation) (s : State) : Host.Outcome State Fault Refusal :=
  match s.store.port with
  | some (.checkpoint j snap) => finish (completeCheckpoint dev j snap s)
  | some (.historyWrite _ _) => noEvent s
  | some (.historyRead _ _ _) => noEvent s
  | some (.configRead _) => noEvent s
  | some (.configWrite _ _) => noEvent s
  | some .wipe => noEvent s
  | none => noEvent s

/-! ### History write -/

/-- R121: the position of an entry leaves the index at its write's begin, with HIST_OVERFLOW if it was there. -/
def evictPosition (p : Nat) (s : State) : State :=
  if inIndex p s.comps.index then
    raise .histOverflow (some p) (s.setIndex (leaveIndex p s.comps.index))
  else s

/-- R120, R121: the write of an entry begins; its absent identity takes free bytes (assumption log 20). -/
def beginHistoryWrite (e : HistEntry) (s : State) : State :=
  let s1 := evictPosition (e.seq % 32) s
  occupyPort (.historyWrite e (encodeEntry (freeBytesAt s1 0 4) e)) (takeFree 4 s1)

/-- HISTORY_WRITE_BEGIN (R121). -/
def execHistoryWriteBegin (s : State) : Host.Outcome State Fault Refusal :=
  match portChoice s with
  | .historyWrite e => finish (beginHistoryWrite e s)
  | .nothing => noEvent s
  | .checkpoint => noEvent s
  | .slotOp _ => noEvent s
  | .wipe => noEvent s

/-- R120: the head leaves the history write queue. -/
def dropQueueHead (s : State) : State := s.setComps { s.comps with queue := s.comps.queue.tail }

/-- The bytes of the store after the write of an entry, with what differs (assumption log 35). -/
def writtenBytes (m : List Host.Cell) (p : Nat) (bytes : List Byte) (dev : Deviation) : List Host.Cell :=
  memWriteCells (memWriteBytes m (historyAddr p) bytes) (historyAddr p) 256 dev

/-- R120: written, if a valid record with the entry's sequence reads back; failed otherwise, with no valid record left
at the position (R121). -/
def settleHistoryWrite (p seq : Nat) (s : State) : State :=
  if historyAt s.nvm p = .valid seq then s.setIndex (enterIndex p seq s.comps.index)
  else raise .storeWrite (some p) (s.setNvm (forceNoEntry p s.nvm))

/-- R120: the completion of a history write. -/
def endHistoryWrite (e : HistEntry) (bytes : List Byte) (dev : Deviation) (s : State) : State :=
  let s1 := freePort (s.setNvm (writtenBytes s.nvm (e.seq % 32) bytes dev))
  settleHistoryWrite (e.seq % 32) e.seq (dropQueueHead s1)

/-- HISTORY_WRITE_COMPLETION (R120), with the retry of R114 at once or left to a DEFERRED_CLOSE_RETRY that
follows (assumption log 18). -/
def execHistoryWriteCompletion (dev : Deviation) (retryFirst : Bool) (s : State) : Host.Outcome State Fault Refusal :=
  match s.store.port with
  | some (.historyWrite e bytes) =>
    let s1 := endHistoryWrite e bytes dev s
    finish (if retryFirst then retryDeferred s1 else s1)
  | some (.checkpoint _ _) => noEvent s
  | some (.historyRead _ _ _) => noEvent s
  | some (.configRead _) => noEvent s
  | some (.configWrite _ _) => noEvent s
  | some .wipe => noEvent s
  | none => noEvent s

/-- DEFERRED_CLOSE_RETRY (R114). -/
def execDeferredCloseRetry (s : State) : Host.Outcome State Fault Refusal :=
  if s.power.state = .unsupplied then noEvent s else finish (retryDeferred s)

/-! ### Service operations -/

/-- The request slot's operation begins (R187). -/
def beginSlotOp (req : StoreReq) (op : StoreOp) (s : State) : State :=
  occupyPort op (s.setBus { s.bus with slot := .waitingStore req true })

/-- R146: the begin of a HISTORY READ: NO_SUCH, or the read of the position the index gives. -/
def beginHistoryRead (d : Nat) (s : State) : State :=
  match indexAt s.comps.index d with
  | none => answerResult 5 .noSuch s
  | some x => beginSlotOp (.readHistory d) (.historyRead d x.1 x.2) s

/-- HISTORY_READ_BEGIN (R146). -/
def execHistoryReadBegin (s : State) : Host.Outcome State Fault Refusal :=
  match portChoice s with
  | .slotOp (.readHistory d) => finish (beginHistoryRead d s)
  | .slotOp (.readConfig _) => noEvent s
  | .slotOp (.writeConfig _ _) => noEvent s
  | .nothing => noEvent s
  | .checkpoint => noEvent s
  | .historyWrite _ => noEvent s
  | .wipe => noEvent s

/-- A service answer, unless the slot was freed while the operation was in flight (R132). -/
def answerUnless (discard : Bool) (answer : State → State) (s : State) : State := if discard then s else answer s

/-- R146: the completion of a HISTORY READ; the record is classified even where the answer is discarded
(assumption log 7). STORE_TORN is raised before NO_SUCH is answered, as R146 names them (assumption log 15). -/
def endHistoryRead (d p seq : Nat) (s : State) : State :=
  let discard := s.store.discard
  let s1 := freePort s
  if historyAt s1.nvm p = .valid seq then
    answerUnless discard (enterSending (historyFrames s1.cfg d (historyBytes s1.nvm p))) s1
  else
    answerUnless discard (answerResult 5 .noSuch)
      (raise .storeTorn (some p) (s1.setIndex (leaveIndex p s1.comps.index)))

/-- HISTORY_READ_COMPLETION (R146). -/
def execHistoryReadCompletion (s : State) : Host.Outcome State Fault Refusal :=
  match s.store.port with
  | some (.historyRead d p seq) => finish (endHistoryRead d p seq s)
  | some (.checkpoint _ _) => noEvent s
  | some (.historyWrite _ _) => noEvent s
  | some (.configRead _) => noEvent s
  | some (.configWrite _ _) => noEvent s
  | some .wipe => noEvent s
  | none => noEvent s

/-- CONFIG_READ_BEGIN (R147). -/
def execConfigReadBegin (s : State) : Host.Outcome State Fault Refusal :=
  match portChoice s with
  | .slotOp (.readConfig o) => finish (beginSlotOp (.readConfig o) (.configRead o) s)
  | .slotOp (.readHistory _) => noEvent s
  | .slotOp (.writeConfig _ _) => noEvent s
  | .nothing => noEvent s
  | .checkpoint => noEvent s
  | .historyWrite _ => noEvent s
  | .wipe => noEvent s

/-- R147: the four bytes of a word of block 0. -/
def configWord (m : List Host.Cell) (offset : Nat) : List Byte := memSlice m (4 * offset) 4

/-- R147: the completion of a CONFIG READ. -/
def endConfigRead (offset : Nat) (s : State) : State :=
  answerUnless s.store.discard (answerRead 7 1 8 (configBlock offset (configWord s.nvm offset))) (freePort s)

/-- CONFIG_READ_COMPLETION (R147). -/
def execConfigReadCompletion (s : State) : Host.Outcome State Fault Refusal :=
  match s.store.port with
  | some (.configRead o) => finish (endConfigRead o s)
  | some (.checkpoint _ _) => noEvent s
  | some (.historyWrite _ _) => noEvent s
  | some (.historyRead _ _ _) => noEvent s
  | some (.configWrite _ _) => noEvent s
  | some .wipe => noEvent s
  | none => noEvent s

/-- CONFIG_WRITE_BEGIN (R147). -/
def execConfigWriteBegin (s : State) : Host.Outcome State Fault Refusal :=
  match portChoice s with
  | .slotOp (.writeConfig o bs) => finish (beginSlotOp (.writeConfig o bs) (.configWrite o bs) s)
  | .slotOp (.readHistory _) => noEvent s
  | .slotOp (.readConfig _) => noEvent s
  | .nothing => noEvent s
  | .checkpoint => noEvent s
  | .historyWrite _ => noEvent s
  | .wipe => noEvent s

/-- The bytes of the store after the write of a configuration word, with what differs (assumption log 35). -/
def writtenWord (m : List Host.Cell) (offset : Nat) (bytes : List Byte) (dev : Deviation) : List Host.Cell :=
  memWriteCells (memWriteBytes m (4 * offset) bytes) (4 * offset) 4 dev

/-- R147: STORE_WRITE where the word read back differs from the one written. -/
def verifyWord (offset : Nat) (bytes : List Byte) (s : State) : State :=
  if configWord s.nvm offset = bytes then s else raise .storeWrite (some 43) s

/-- R147: the completion of a CONFIG WRITE: the word read back is handed over and fed, and then STORE_WRITE is raised
where it differs, in the order in which R147 names the two; R169 leaves that order to the world (assumption log 15). -/
def endConfigWrite (offset : Nat) (bytes : List Byte) (dev : Deviation) (s : State) : State :=
  let s1 := freePort (s.setNvm (writtenWord s.nvm offset bytes dev))
  verifyWord offset bytes
    (answerUnless s.store.discard (answerRead 14 1 8 (configBlock offset (configWord s1.nvm offset))) s1)

/-- CONFIG_WRITE_COMPLETION (R147). -/
def execConfigWriteCompletion (dev : Deviation) (s : State) : Host.Outcome State Fault Refusal :=
  match s.store.port with
  | some (.configWrite o bytes) => finish (endConfigWrite o bytes dev s)
  | some (.checkpoint _ _) => noEvent s
  | some (.historyWrite _ _) => noEvent s
  | some (.historyRead _ _ _) => noEvent s
  | some (.configRead _) => noEvent s
  | some .wipe => noEvent s
  | none => noEvent s

/-! ### Wipe -/

/-- R148: the begin of a wipe. -/
def beginWipe (s : State) : State :=
  let s1 := s.setStore { s.store with wipePending := false, wipeRunning := true }
  occupyPort .wipe (s1.setIndex [])

/-- WIPE_BEGIN (R148). -/
def execWipeBegin (s : State) : Host.Outcome State Fault Refusal :=
  match portChoice s with
  | .wipe => finish (beginWipe s)
  | .nothing => noEvent s
  | .checkpoint => noEvent s
  | .historyWrite _ => noEvent s
  | .slotOp _ => noEvent s

/-- The bytes of the store after a wipe, with what differs (assumption log 35). -/
def wipedBytes (m : List Host.Cell) (dev : Deviation) : List Host.Cell :=
  memWriteCells (memErase m 0x800 8192) 0x800 8192 dev

/-- R148: the positions that are not blank. -/
def notBlank (m : List Host.Cell) : List Nat := (List.range 32).filter fun p => decide (historyAt m p ≠ .blank)

/-- R148: the completion of a wipe. -/
def endWipe (dev : Deviation) (s : State) : State :=
  let m := wipedBytes s.nvm dev
  let s1 := raiseEach .storeWrite (notBlank m) (freePort (s.setNvm m))
  s1.setStore { s1.store with wipeRunning := false }

/-- WIPE_COMPLETION (R148). -/
def execWipeCompletion (dev : Deviation) (s : State) : Host.Outcome State Fault Refusal :=
  match s.store.port with
  | some .wipe => finish (endWipe dev s)
  | some (.checkpoint _ _) => noEvent s
  | some (.historyWrite _ _) => noEvent s
  | some (.historyRead _ _ _) => noEvent s
  | some (.configRead _) => noEvent s
  | some (.configWrite _ _) => noEvent s
  | none => noEvent s

end Sys2Proof.Machine
end

