-- ==== Sys2Proof/Machine/RequestCommands.lean ====
section
/-! DEFINITION. The service requests as commands of their own; each carries the bytes behind its request code (R187 to R192). -/

namespace Sys2Proof.Machine

/-- READ_SIGNAL (R190). -/
def execReadSignal (params : List Byte) (s : State) : Host.Outcome State Fault Refusal :=
  requestEvent (takeRequest 1 params (serveReadSignal params)) s

/-- READ_CHANNEL (R190). -/
def execReadChannel (params : List Byte) (s : State) : Host.Outcome State Fault Refusal :=
  requestEvent (takeRequest 2 params (serveReadChannel params)) s

/-- READ_COMPONENT (R190). -/
def execReadComponent (params : List Byte) (s : State) : Host.Outcome State Fault Refusal :=
  requestEvent (takeRequest 3 params (serveReadComponent params)) s

/-- READ_SPECTRUM (R190). -/
def execReadSpectrum (params : List Byte) (s : State) : Host.Outcome State Fault Refusal :=
  requestEvent (takeRequest 4 params (serveReadSpectrum params)) s

/-- READ_HISTORY (R191). -/
def execReadHistory (params : List Byte) (s : State) : Host.Outcome State Fault Refusal :=
  requestEvent (takeRequest 5 params (serveReadHistory params)) s

/-- READ_FAULTS (R190). -/
def execReadFaults (params : List Byte) (s : State) : Host.Outcome State Fault Refusal :=
  requestEvent (takeRequest 6 params serveReadFaults) s

/-- READ_CONFIG (R191). -/
def execReadConfig (params : List Byte) (s : State) : Host.Outcome State Fault Refusal :=
  requestEvent (takeRequest 7 params (serveReadConfig params)) s

/-- ACK_FAULTS (R175, R192). -/
def execAckFaults (params : List Byte) (s : State) : Host.Outcome State Fault Refusal :=
  requestEvent (takeRequest 8 params (serveAckFaults params)) s

/-- PRESET_CHANNEL (R69, R192). -/
def execPresetChannel (params : List Byte) (s : State) : Host.Outcome State Fault Refusal :=
  requestEvent (takeRequest 9 params (servePresetChannel params)) s

/-- CLOSE_COMPONENT (R119, R192). -/
def execCloseComponent (params : List Byte) (s : State) : Host.Outcome State Fault Refusal :=
  requestEvent (takeRequest 10 params (serveCloseComponent params)) s

/-- SET_IDENTITY (R119, R192). -/
def execSetIdentity (params : List Byte) (s : State) : Host.Outcome State Fault Refusal :=
  requestEvent (takeRequest 11 params (serveSetIdentity params)) s

/-- CHECKPOINT_NOW (R133, R192). -/
def execCheckpointNow (params : List Byte) (s : State) : Host.Outcome State Fault Refusal :=
  requestEvent (takeRequest 12 params serveCheckpointNow) s

/-- WIPE_HISTORY (R148, R192). -/
def execWipeHistory (params : List Byte) (s : State) : Host.Outcome State Fault Refusal :=
  requestEvent (takeRequest 13 params serveWipeHistory) s

/-- WRITE_CONFIG (R147, R191). -/
def execWriteConfig (params : List Byte) (s : State) : Host.Outcome State Fault Refusal :=
  requestEvent (takeRequest 14 params (serveWriteConfig params)) s

/-- UNKNOWN_REQUEST_CODE (R187, R188): the data of the whole frame. -/
def execUnknownRequestCode (data : List Byte) (s : State) : Host.Outcome State Fault Refusal :=
  requestEvent (takeUnknown data) s

end Sys2Proof.Machine
end

