-- ==== Sys2Proof/Machine/Dispatch.lean ====
section
/-! DEFINITION. One arm for each command, each a direct call of its meaning. -/

namespace Sys2Proof.Machine

/-- A command's effect on everything but the queue of waiting commands. -/
def exec (i : Instr) (s : State) : Host.Outcome State Fault Refusal :=
  match i with
  | .supplyApplied => Sys2Proof.Machine.execSupplyApplied s
  | .supplyLoss cut => Sys2Proof.Machine.execSupplyLoss cut s
  | .reset cut => Sys2Proof.Machine.execReset cut s
  | .layoutChangeClose => Sys2Proof.Machine.execLayoutChangeClose s
  | .loadingEnd => Sys2Proof.Machine.execLoadingEnd s
  | .ignLineChange high captureFirst => Sys2Proof.Machine.execIgnLineChange high captureFirst s
  | .wakeLineActive active => Sys2Proof.Machine.execWakeLineActive active s
  | .settleTimerExpiry => Sys2Proof.Machine.execSettleTimerExpiry s
  | .supplyWarning active => Sys2Proof.Machine.execSupplyWarning active s
  | .quietTimerExpiry => Sys2Proof.Machine.execQuietTimerExpiry s
  | .frameArrival frame busFirst => Sys2Proof.Machine.execFrameArrival frame busFirst s
  | .frameTaken => Sys2Proof.Machine.execFrameTaken s
  | .accountingTick => Sys2Proof.Machine.execAccountingTick s
  | .sourceTimerExpiry => Sys2Proof.Machine.execSourceTimerExpiry s
  | .channelSample channel => Sys2Proof.Machine.execChannelSample channel s
  | .tickStep => Sys2Proof.Machine.execTickStep s
  | .stallTimerExpiry => Sys2Proof.Machine.execStallTimerExpiry s
  | .countedEdge unit rising => Sys2Proof.Machine.execCountedEdge unit rising s
  | .windowEnd unit => Sys2Proof.Machine.execWindowEnd unit s
  | .linkStateChange link => Sys2Proof.Machine.execLinkStateChange link s
  | .frameSent => Sys2Proof.Machine.execFrameSent s
  | .burstFeed => Sys2Proof.Machine.execBurstFeed s
  | .keyCycleNoticeFeed => Sys2Proof.Machine.execKeyCycleNoticeFeed s
  | .summaryTimerExpiry => Sys2Proof.Machine.execSummaryTimerExpiry s
  | .statusTimerExpiry => Sys2Proof.Machine.execStatusTimerExpiry s
  | .checkpointIntervalExpiry => Sys2Proof.Machine.execCheckpointIntervalExpiry s
  | .checkpointBegin => Sys2Proof.Machine.execCheckpointBegin s
  | .presetApplication channel => Sys2Proof.Machine.execPresetApplication channel s
  | .checkpointCompletion left => Sys2Proof.Machine.execCheckpointCompletion left s
  | .historyWriteBegin => Sys2Proof.Machine.execHistoryWriteBegin s
  | .historyWriteCompletion dev retryFirst => Sys2Proof.Machine.execHistoryWriteCompletion dev retryFirst s
  | .deferredCloseRetry => Sys2Proof.Machine.execDeferredCloseRetry s
  | .historyReadBegin => Sys2Proof.Machine.execHistoryReadBegin s
  | .historyReadCompletion => Sys2Proof.Machine.execHistoryReadCompletion s
  | .configReadBegin => Sys2Proof.Machine.execConfigReadBegin s
  | .configReadCompletion => Sys2Proof.Machine.execConfigReadCompletion s
  | .configWriteBegin => Sys2Proof.Machine.execConfigWriteBegin s
  | .configWriteCompletion dev => Sys2Proof.Machine.execConfigWriteCompletion dev s
  | .wipeBegin => Sys2Proof.Machine.execWipeBegin s
  | .wipeCompletion dev => Sys2Proof.Machine.execWipeCompletion dev s
  | .readSignal params => Sys2Proof.Machine.execReadSignal params s
  | .readChannel params => Sys2Proof.Machine.execReadChannel params s
  | .readComponent params => Sys2Proof.Machine.execReadComponent params s
  | .readSpectrum params => Sys2Proof.Machine.execReadSpectrum params s
  | .readHistory params => Sys2Proof.Machine.execReadHistory params s
  | .readFaults params => Sys2Proof.Machine.execReadFaults params s
  | .readConfig params => Sys2Proof.Machine.execReadConfig params s
  | .ackFaults params => Sys2Proof.Machine.execAckFaults params s
  | .presetChannel params => Sys2Proof.Machine.execPresetChannel params s
  | .closeComponent params => Sys2Proof.Machine.execCloseComponent params s
  | .setIdentity params => Sys2Proof.Machine.execSetIdentity params s
  | .checkpointNow params => Sys2Proof.Machine.execCheckpointNow params s
  | .wipeHistory params => Sys2Proof.Machine.execWipeHistory params s
  | .writeConfig params => Sys2Proof.Machine.execWriteConfig params s
  | .unknownRequestCode data => Sys2Proof.Machine.execUnknownRequestCode data s

end Sys2Proof.Machine
end

