-- ==== Sys2Proof/Safety.lean ====
section
/-! DEFINITION. The terms claims are made in: the blocks a command leaves as they were, and the invariants of the part. -/

namespace Sys2Proof

open Sys2Proof.Machine

/-! ### Frames -/

/-- The parts of the state that a frame names. The lines are two parts: what comes in and what goes out. -/
inductive Block where
  | cfg
  | inputs
  | outputs
  | power
  | cap
  | pulseA
  | pulseB
  | chans
  | start
  | spectra
  | comps
  | faults
  | store
  | nvm
  | bus
  | freeCount
  | pending
  deriving DecidableEq, Repr

/-- A part of the state reads the same in two states. -/
def Block.same (b : Block) (s t : State) : Prop :=
  match b with
  | .cfg => t.cfg = s.cfg
  | .inputs => t.lines.ign = s.lines.ign ∧ t.lines.wake = s.lines.wake ∧ t.lines.warning = s.lines.warning
  | .outputs => t.lines.stby = s.lines.stby ∧ t.lines.due = s.lines.due ∧ t.lines.fault = s.lines.fault
  | .power => t.power = s.power
  | .cap => t.cap = s.cap
  | .pulseA => t.pulseA = s.pulseA
  | .pulseB => t.pulseB = s.pulseB
  | .chans => t.chans = s.chans
  | .start => t.start = s.start
  | .spectra => t.spectra = s.spectra
  | .comps => t.comps = s.comps
  | .faults => t.faults = s.faults
  | .store => t.store = s.store
  | .nvm => t.nvm = s.nvm
  | .bus => t.bus = s.bus
  | .freeCount => t.freeCount = s.freeCount
  | .pending => t.pending = s.pending

/-- Every part outside a list reads the same in two states. -/
def SameBut (changed : List Block) (s t : State) : Prop := ∀ b : Block, b ∉ changed → b.same s t

/-! ### Requests and answers -/

/-- The command that stands for a request frame's data (R195): the code in byte 0 and the parameters behind it. -/
def requestCommand (data : List Byte) : Instr :=
  match codeOf data with
  | 1 => .readSignal (data.drop 1)
  | 2 => .readChannel (data.drop 1)
  | 3 => .readComponent (data.drop 1)
  | 4 => .readSpectrum (data.drop 1)
  | 5 => .readHistory (data.drop 1)
  | 6 => .readFaults (data.drop 1)
  | 7 => .readConfig (data.drop 1)
  | 8 => .ackFaults (data.drop 1)
  | 9 => .presetChannel (data.drop 1)
  | 10 => .closeComponent (data.drop 1)
  | 11 => .setIdentity (data.drop 1)
  | 12 => .checkpointNow (data.drop 1)
  | 13 => .wipeHistory (data.drop 1)
  | 14 => .writeConfig (data.drop 1)
  | _ => .unknownRequestCode data

/-- A request frame would be taken (R187): the link controller runs and the slot is IDLE. -/
def SlotTakes (s : State) : Prop := linkRunning s = true ∧ s.bus.slot = .idle

/-- The slot is SENDING with these frames latched and none of them sent (R189). -/
def Sends (frames : List TxFrame) (t : State) : Prop :=
  t.bus.slot = .sending ∧ t.bus.burst = frames ∧ t.bus.sent = 0

/-- The one page of an answer that is a result alone (R194, Table 12-1). -/
def resultPage (cfg : RunConfig) (code : Nat) (r : Result) : TxFrame :=
  { kind := .response, origin := .burst, ident := cfg.base + 16 + cfg.station,
    data := [BitVec.ofNat 8 code, resultCode r] }

/-- The frames of an answer are fed one at a time while the queue holds 6 frames or fewer (R189). -/
def FedAsRoomAllows (s t : State) : Prop :=
  t.bus.fed = min t.bus.burst.length (7 - s.bus.queue.length) ∧
    t.bus.queue.length = s.bus.queue.length + t.bus.fed

/-! ### Faults -/

/-- The count of a fault kind (R168). -/
def countOf (s : State) (k : FaultKind) : Nat := s.faults.record.counts[kindIndex k]

/-- R169: the capture that a raise latches where it is empty. -/
def captureOf (s : State) (k : FaultKind) (index : Option Nat) : FaultCapture :=
  { kind := k, keyCycle := s.power.keyCycles, index := index, elapsed := s.faults.elapsed }

/-! ### Channels -/

/-- R65: at least one of the five 32-bit counters of a channel is at its maximum. -/
def ChannelSaturated (ch : Channel) : Prop :=
  max32 ≤ ch.hours ∨ max32 ≤ ch.estHours ∨ max32 ≤ ch.wear ∨ max32 ≤ ch.episodes ∨ max32 ≤ ch.revs

/-- R67: the counter of the due basis is at or above a threshold above 0. -/
def ChannelDue (cc : ChanCfg) (ch : Channel) : Prop :=
  0 < cc.threshold ∧ cc.threshold ≤ (match cc.basis with | .hours => ch.hours | .wear => ch.wear)

/-- R66: the saturated flag of a channel became set with the saturation-reported mark clear. -/
def SaturationReports (c : Fin 24) (s t : State) : Prop :=
  ChannelSaturated t.chans[c] ∧ s.chans[c].saturated = false ∧ s.chans[c].satReported = false

/-- R65 to R68, R185: what a change of a channel's counters leaves of its flags and reports: COUNTER_SAT with the
channel number, once under the mark, and at a turn on a DUE notice while the link controller runs. -/
structure ChannelReported (c : Fin 24) (cc : ChanCfg) (s t : State) : Prop where
  saturated : t.chans[c].saturated = true ↔ ChannelSaturated t.chans[c]
  marked    : t.chans[c].satReported = true ↔ s.chans[c].satReported = true ∨ SaturationReports c s t
  raised    : SaturationReports c s t → statusOf t.faults .counterSat = true ∧
    (s.faults.record.capture = none → t.faults.record.capture = some (captureOf s .counterSat (some c.val)))
  dueFlag   : (s.chans[c].due = true ↔ ChannelDue cc s.chans[c]) → (t.chans[c].due = true ↔ ChannelDue cc t.chans[c])
  dueSet    : s.faults.dueSet[c] = s.chans[c].due → t.faults.dueSet[c] = t.chans[c].due
  others    : ∀ d : Fin 24, d ≠ c → t.faults.dueSet[d] = s.faults.dueSet[d]
  notice    : s.chans[c].due = false → t.chans[c].due = true → linkRunning s = true → s.bus.queue.length < 7 →
    { kind := .notice, origin := .notice, ident := s.cfg.base + 32 + s.cfg.station,
      data := [1, BitVec.ofNat 8 c.val, (match cc.basis with | .hours => 0 | .wear => 1), 0] ++
        leBytes 3 (min 16777215 ((match cc.basis with | .hours => t.chans[c].hours | .wear => t.chans[c].wear) / 100)) }
      ∈ t.bus.queue

/-- R66, R68: the count of COUNTER_SAT, and bus traffic untouched without a report, where no spectrum unit reports. -/
structure ChannelAlone (c : Fin 24) (s t : State) : Prop where
  once  : SaturationReports c s t → countOf t .counterSat = min 255 (countOf s .counterSat + 1)
  none  : ¬ SaturationReports c s t → countOf t .counterSat = countOf s .counterSat
  quiet : ¬ SaturationReports c s t → (s.chans[c].due = true ∨ t.chans[c].due = false ∨ linkRunning s = false) →
    t.bus = s.bus ∧ t.faults.record = s.faults.record

/-- R56, R57: a gate term is true: by its range where its signal is usable, by the policy where it is not. -/
def TermHolds (b : Board) (p : Policy) (lastOpen : Bool) (g : GateTerm) : Prop :=
  (usable b[g.signal].state = true ∧ g.low ≤ b[g.signal].value ∧ b[g.signal].value ≤ g.high) ∨
    (usable b[g.signal].state = false ∧ (p = .opened ∨ (p = .hold ∧ lastOpen = true)))

/-- R62, R63, R65: `n` ticks, fewer than 360, credited to a counter of centihours and its prescaler: 360 x counter +
prescaler gains n below the maximum; at the maximum the counter stays and a carry leaves its prescaler at 0, whatever is
left over (assumption log 46; one tick leaves nothing over). -/
structure TicksCredited (n counter pre counter' pre' : Nat) : Prop where
  below : pre < 360 → counter < max32 → 360 * counter' + pre' = 360 * counter + pre + n ∧ pre' < 360
  full  : counter = max32 → counter' = max32 ∧ pre' = (if pre + n < 360 then pre + n else 0)

/-- R46, R47, R49: `w` raw units credited to wear and its accumulator: 92,160 x wear + accumulator gains w, unless wear
reaches or would pass its maximum, which leaves it there with the accumulator 0. -/
structure WearCredited (w wear acc wear' acc' : Nat) : Prop where
  below : wear + (acc + w) / 92160 < max32 → 92160 * wear' + acc' = 92160 * wear + acc + w ∧ acc' < 92160
  full  : max32 ≤ wear + (acc + w) / 92160 → wear' = max32 ∧ acc' = 0

/-- R26, R64: a revolution event at channel `c`: one more revolution in RUNNING, one more pending revolution in
QUALIFYING, none in another state, each held at its maximum, and nothing else of the record but what R65 and R66 say of
its saturated flag and its mark, with COUNTER_SAT where the flag becomes set under a clear mark. -/
structure RevolutionCounted (c : Fin 24) (s t : State) : Prop where
  record    : t.chans[c] = { s.chans[c] with
    revs := (if s.chans[c].state = .running then min max32 (s.chans[c].revs + 1) else s.chans[c].revs)
    pendRevs := (if s.chans[c].state = .qualifying then min max32 (s.chans[c].pendRevs + 1) else s.chans[c].pendRevs)
    saturated := t.chans[c].saturated
    satReported := t.chans[c].satReported }
  saturated : t.chans[c].saturated = true ↔ ChannelSaturated t.chans[c]
  marked    : t.chans[c].satReported = true ↔ s.chans[c].satReported = true ∨ SaturationReports c s t
  raised    : SaturationReports c s t → statusOf t.faults .counterSat = true

/-- R99, R102, R169: spectrum unit `u` reports COUNTER_SAT in a sample of its owner `c`: an empty capture takes the
unit's item number, where the channel itself reports nothing, no other unit is its, and no notice can be dropped. -/
structure UnitReports (u : Fin 4) (c : Fin 24) (s t : State) : Prop where
  status  : statusOf t.faults .counterSat = true
  capture : s.faults.record.capture = none → ¬ SaturationReports c s t → s.bus.queue.length < 8 →
    (∀ (v : Fin 4) (sc : SpecCfg), s.cfg.spectra[v] = some sc → sc.owner = c → v = u) →
    t.faults.record.capture = some (captureOf s .counterSat (some (76 + u.val)))

/-! ### Closes -/

/-- R110: the bound channels of slot `i` with a staged preset. -/
def stagedChannels (i : Fin 12) (s : State) : List (Fin 24) :=
  (boundChannels s.cfg i).filter fun (c : Fin 24) => s.chans[c].staged.isSome

/-- R72, R73: what the close-outs of a close leave at the fault unit: PRESET_ABANDONED once for each bound channel with
a staged preset, and the due set marks of the bound channels clear. Which of several a capture latches is left open. -/
structure CloseFaults (i : Fin 12) (s t : State) : Prop where
  raised  : stagedChannels i s ≠ [] → statusOf t.faults .presetAbandoned = true
  kept    : stagedChannels i s = [] → statusOf t.faults .presetAbandoned = statusOf s.faults .presetAbandoned
  count   : countOf s .presetAbandoned ≤ 255 →
    countOf t .presetAbandoned = min 255 (countOf s .presetAbandoned + (stagedChannels i s).length)
  capture : stagedChannels i s ≠ [] → s.faults.record.capture = none →
    ∃ c ∈ stagedChannels i s, t.faults.record.capture = some (captureOf s .presetAbandoned (some c.val))
  dueSet  : ∀ c : Fin 24, t.faults.dueSet[c] = (if c ∈ boundChannels s.cfg i then false else s.faults.dueSet[c])
  quiet   : stagedChannels i s = [] → (linkRunning s = false ∨ s.bus.queue.length < 8) →
    t.faults = { s.faults with dueSet := t.faults.dueSet }

/-- A close of slot `i` of class `cls` was made (R116, R117): the entry of the outgoing component stands at the tail of
the history write queue, the slot has started again with `identity`, its bound channels are cleared and keep their
episode, with PRESET_ABANDONED for a staged preset, the spectrum units they own are zero, every other channel, unit and
slot is as it was, a normal request is raised, and a COMPONENT notice is queued while the link controller runs. -/
def ClosedSlot (i : Fin 12) (cls : Machine.Class) (reason : Reason) (identity : Option Nat) (s t : State) : Prop :=
  t.comps.queue = s.comps.queue ++
    [{ seq := s.comps.nextSeq, slot := i, cls := cls, identity := s.comps.slots[i].identity,
       generation := s.comps.slots[i].generation, install := s.comps.slots[i].install,
       closeKey := s.power.keyCycles, reason := reason,
       chans := chanList ((boundChannels s.cfg i).map (entryChan s)),
       tallies := entryTallies s.comps.slots[i].tallies }] ∧
  t.comps.nextSeq = s.comps.nextSeq + 1 ∧ t.comps.index = s.comps.index ∧
  t.comps.slots[i].identity = identity ∧ t.comps.slots[i].candidate = none ∧ t.comps.slots[i].confirm = 0 ∧
  t.comps.slots[i].generation = min 65535 (s.comps.slots[i].generation + 1) ∧
  t.comps.slots[i].install = s.power.keyCycles ∧
  t.comps.slots[i].tallies = successorTallies s.comps.slots[i].tallies ∧
  t.comps.slots[i].state = (if identity.isNone && s.cfg.identity[i].isSome then .unidentified else .present) ∧
  (∀ k : Fin 12, k ≠ i → t.comps.slots[k] = s.comps.slots[k]) ∧
  (∀ (c : Fin 24) (cc : ChanCfg), s.cfg.channels[c] = some cc → cc.slot = i →
    t.chans[c] = { s.chans[c] with hours := 0, estHours := 0, wear := 0, episodes := 0, revs := 0, hourPre := 0,
                                   estPre := 0, wearAcc := 0, clip := 0, due := false, saturated := false,
                                   satReported := false, staged := none }) ∧
  (∀ c : Fin 24, (∀ cc, s.cfg.channels[c] = some cc → cc.slot ≠ i) → t.chans[c] = s.chans[c]) ∧
  (∀ (u : Fin 4) (sc : SpecCfg) (cc : ChanCfg), s.cfg.spectra[u] = some sc → s.cfg.channels[sc.owner] = some cc →
    cc.slot = i → t.spectra[u] = Spectrum.zero) ∧
  (∀ u : Fin 4, (∀ (sc : SpecCfg) (cc : ChanCfg), s.cfg.spectra[u] = some sc → s.cfg.channels[sc.owner] = some cc →
    cc.slot ≠ i) → t.spectra[u] = s.spectra[u]) ∧
  (∀ sc : StartCfg, s.cfg.start = some sc → sc.engine = i → s.start.state = .running →
    t.start = { s.start with stallRunning := false }) ∧
  ((∀ sc : StartCfg, s.cfg.start = some sc → sc.engine ≠ i ∨ s.start.state ≠ .running) → t.start = s.start) ∧
  (linkRunning s = true → s.bus.queue.length < 7 → (∀ c : Fin 24, s.chans[c].staged = none) →
    { kind := .notice, origin := .notice, ident := s.cfg.base + 32 + s.cfg.station,
      data := [2, BitVec.ofNat 8 (i.val + 16 * reasonCode reason)] ++
        leBytes 2 (min 65535 (s.comps.slots[i].generation + 1)) ++ leBytes 4 s.comps.nextSeq } ∈ t.bus.queue) ∧
  CloseFaults i s t ∧
  t.store = { s.store with normal := true }

/-! ### Signals -/

/-- R16: a FRESH source comes before a HELD one, a HELD one before any other. -/
def sourceRank : SigState → Nat
  | .fresh => 0
  | .held => 1
  | .stale | .unknown | .unavailable | .faulted | .absent => 2

/-- R16: a source of the signal that no source of it precedes, by rank and then by the lower priority number. -/
def Chosen (cfg : RunConfig) (xs : Vector Source 27) (i : Sig) (x : Src) : Prop :=
  ∃ it, srcItems cfg x = some it ∧ it.target = i ∧
    ∀ (y : Src) (jt : SrcItems), srcItems cfg y = some jt → jt.target = i →
      sourceRank xs[x].state < sourceRank xs[y].state ∨
        (sourceRank xs[x].state = sourceRank xs[y].state ∧ it.prio ≤ jt.prio)

/-- R17: a signal of the board reads as its active source, or is ABSENT without a source. -/
def Follows (cfg : RunConfig) (xs : Vector Source 27) (i : Sig) (b : BoardSig) : Prop :=
  (b = { value := 0, state := .absent, active := none } ∧ ∀ x it, srcItems cfg x = some it → it.target ≠ i) ∨
    ∃ x, Chosen cfg xs i x ∧ b = { value := xs[x].value, state := xs[x].state, active := some x }

/-- R18: CLUTCH_SLIP `c` from ENGINE_SPEED `e` and INPUT_SHAFT_SPEED `i`. -/
structure SlipFollows (e i c : BoardSig) : Prop where
  absent : e.state = .absent ∨ i.state = .absent → c = { value := 0, state := .absent, active := none }
  value  : e.state ≠ .absent → i.state ≠ .absent → c.value = max 0 (e.value - i.value) ∧ c.active = none
  good   : usable e.state = true → usable i.state = true →
    c.state = if e.state = .held ∨ i.state = .held then .held else .fresh
  other  : e.state ≠ .absent → i.state ≠ .absent → (usable e.state = false ∨ usable i.state = false) →
    c.state =
      if e.state = .stale ∨ i.state = .stale then .stale
      else if e.state = .unavailable ∨ i.state = .unavailable then .unavailable
      else if e.state = .faulted ∨ i.state = .faulted then .faulted
      else .unknown

/-- R20, R21: every signal as its sources say, and CLUTCH_SLIP as its inputs say. -/
structure BoardFresh (cfg : RunConfig) (xs : Vector Source 27) (b : Board) : Prop where
  signals : ∀ i : Sig, i ≠ sClutchSlip → Follows cfg xs i b[i]
  slip    : SlipFollows b[sEngineSpeed] b[sInputShaftSpeed] b[sClutchSlip]

/-- R17: a change of value or state of a signal. -/
def Changed (old new : Board) (i : Sig) : Prop := new[i].value ≠ old[i].value ∨ new[i].state ≠ old[i].state

/-- R16 to R18: an event that touched sources of some signals: those signals read as their sources say, every other
keeps what it read, and CLUTCH_SLIP is derived again where an input changed. -/
structure BoardFollows (cfg : RunConfig) (xs : Vector Source 27) (touched : Sig → Prop) (old new : Board) : Prop where
  follow   : ∀ i : Sig, i ≠ sClutchSlip → touched i → Follows cfg xs i new[i]
  kept     : ∀ i : Sig, i ≠ sClutchSlip → ¬ touched i → new[i] = old[i]
  slip     : Changed old new sEngineSpeed ∨ Changed old new sInputShaftSpeed →
    SlipFollows new[sEngineSpeed] new[sInputShaftSpeed] new[sClutchSlip]
  slipKept : ¬ Changed old new sEngineSpeed → ¬ Changed old new sInputShaftSpeed →
    new[sClutchSlip] = old[sClutchSlip]

/-- R185: the enabled channels whose due flags are set, in channel order. -/
def dueList (s : State) : List (Fin 24) :=
  (List.finRange 24).filter fun (c : Fin 24) => s.cfg.channels[c].isSome && s.chans[c].due

/-- A change that leaves KEY_STATE usable and RUN or CRANK while no key cycle is open (R165). -/
def KeyOpens (s t : State) : Prop :=
  Changed s.cap.board t.cap.board sKeyState ∧ usable t.cap.board[sKeyState].state = true ∧
    (t.cap.board[sKeyState].value = 2 ∨ t.cap.board[sKeyState].value = 3) ∧ s.power.keyOpen = false

/-- A change that leaves KEY_STATE usable and OFF (R165). -/
def KeyEnds (s t : State) : Prop :=
  Changed s.cap.board t.cap.board sKeyState ∧ usable t.cap.board[sKeyState].state = true ∧
    t.cap.board[sKeyState].value = 0

/-- R165, R185: the key cycle at an event at signal capture in ACTIVE or CLOSING. A new one is counted and latches the
key-cycle notice list, from which notices are fed while the queue holds 5 frames or fewer. -/
structure KeyCycleFollows (s t : State) : Prop where
  opens : KeyOpens s t → t.power.keyOpen = true ∧ t.power.keyCycles = min max32 (s.power.keyCycles + 1) ∧
    (∃ fed, dueList t = fed ++ t.bus.keyList) ∧ (6 ≤ s.bus.queue.length → t.bus.keyList = dueList t) ∧
    (t.bus.keyList ≠ [] → 6 ≤ t.bus.queue.length)
  ends  : KeyEnds s t → t.power.keyOpen = false ∧ t.power.keyCycles = s.power.keyCycles ∧
    t.bus.keyList = s.bus.keyList
  kept  : ¬ KeyOpens s t → ¬ KeyEnds s t → t.power.keyOpen = s.power.keyOpen ∧
    t.power.keyCycles = s.power.keyCycles ∧ t.bus.keyList = s.bus.keyList

/-- R171: a signal that an accepted item reads. -/
def Used (cfg : RunConfig) (i : Sig) : Prop :=
  (∃ (c : Fin 24) (cc : ChanCfg), cfg.channels[c] = some cc ∧
    (cc.term1.signal = i ∨ (∃ g, cc.term2 = some g ∧ g.signal = i) ∨
      (∃ m x xt y yt fb w, cc.weight = .map m ∧ cfg.maps[m] = .valid x xt y yt fb w ∧ (x = i ∨ y = i)) ∨
      (∃ f t k, cc.factor = some f ∧ cfg.factors[f] = .valid i t k))) ∨
  (cfg.start ≠ none ∧ (i = sEngineSpeed ∨ i = sCoolantTemp ∨ i = sKeyState ∨ i = sStarterEngaged)) ∨
  ∃ (u : Fin 4) (sc : SpecCfg) (x : Sig) (xt : Fin 10) (y : Sig) (yt : Fin 10),
    cfg.spectra[u] = some sc ∧ sc.axes = some (x, xt, y, yt) ∧ (x = i ∨ y = i)

/-- R170: SIG_STALE after an event at signal capture: present with the lowest used signal that is STALE, absent
without one, and raised once for each used signal that entered STALE. -/
structure StaleFollows (s t : State) : Prop where
  absent  : (∀ i : Sig, Used s.cfg i → t.cap.board[i].state ≠ .stale) → t.faults.sigStale = none
  present : ∀ i : Sig, Used s.cfg i → t.cap.board[i].state = .stale →
    (∀ j : Sig, j < i → Used s.cfg j → t.cap.board[j].state ≠ .stale) → t.faults.sigStale = some (some i.val)
  raised  : countOf s .sigStale ≤ 255 → ∃ l : List Sig, l.Pairwise (· < ·) ∧
    (∀ i : Sig, i ∈ l ↔ Used s.cfg i ∧ s.cap.board[i].state ≠ .stale ∧ t.cap.board[i].state = .stale) ∧
    countOf t .sigStale = min 255 (countOf s .sigStale + l.length)

/-- R17: the start unit's turn at an event: one board change on the board as it stands after it, where one of the four
signals it reads changed, and none otherwise. -/
structure StartFollows (s t : State) : Prop where
  turn : Changed s.cap.board t.cap.board sEngineSpeed ∨ Changed s.cap.board t.cap.board sCoolantTemp ∨
      Changed s.cap.board t.cap.board sKeyState ∨ Changed s.cap.board t.cap.board sStarterEngaged →
    t.start = (startBoardChange (s.setCap t.cap)).start ∧ t.comps = (startBoardChange (s.setCap t.cap)).comps
  none : ¬ Changed s.cap.board t.cap.board sEngineSpeed → ¬ Changed s.cap.board t.cap.board sCoolantTemp →
    ¬ Changed s.cap.board t.cap.board sKeyState → ¬ Changed s.cap.board t.cap.board sStarterEngaged →
    t.start = s.start ∧ t.comps = s.comps

/-- R94: crank indication evaluated once at an ACTIVE entry, on the board as it stands after it, with the last crank
indication off before. -/
def CrankEvaluated (s t : State) : Prop :=
  ∃ r : State, r = startBoardChange
      (((s.setPower t.power).setCap t.cap).setStart { s.start with lastCrank := false }) ∧
    t.start = r.start ∧ t.comps = r.comps

/-- R5: a frame hands the identity field `v` to slot `i`: it matches the slot's identity source, and the four bytes from
its offset on are there. -/
def IdentityIn (cfg : RunConfig) (f : Frame) (i : Fin 12) (v : Nat) : Prop :=
  ∃ x : IdentSrc, cfg.identity[i] = some x ∧ x.ext = f.ext ∧ x.ident = f.ident ∧ x.offset + 4 ≤ f.data.length ∧
    v = (byteAt f.data x.offset).toNat + 256 * (byteAt f.data (x.offset + 1)).toNat +
      65536 * (byteAt f.data (x.offset + 2)).toNat + 16777216 * (byteAt f.data (x.offset + 3)).toNat

/-- R3 step 2, R5, R111: `at' i` stands before slot `i` has had its identity field of the frame, and `at' 12` after all:
each configured slot takes the field the frame hands it, in slot order, and any other slot takes nothing. -/
structure IdentitiesTaken (f : Frame) (at' : Nat → State) : Prop where
  taken : ∀ (i : Fin 12) (cls : Machine.Class) (v : Nat), (at' 0).cfg.classes[i] = some cls →
    IdentityIn (at' 0).cfg f i v → at' (i.val + 1) = identityField i cls v (at' i.val)
  left  : ∀ i : Fin 12, ((at' 0).cfg.classes[i] = none ∨ ∀ v, ¬ IdentityIn (at' 0).cfg f i v) →
    at' (i.val + 1) = at' i.val

/-- R14: the IGN source FRESH with the line's value and its timers stopped, KEY_STATE after it, and what follows from
KEY_STATE's change at power control and the fault unit. -/
structure IgnTaken (s t : State) : Prop where
  source : t.cap.sources[(26 : Fin 27)].state = .fresh ∧
    t.cap.sources[(26 : Fin 27)].value = (if t.lines.ign then 2 else 0)
  others : ∀ i : Fin 27, i ≠ 26 → t.cap.sources[i] = s.cap.sources[i]
  board  : BoardFollows s.cfg t.cap.sources (fun i => i = sKeyState) s.cap.board t.cap.board
  key    : KeyCycleFollows s t
  stale  : StaleFollows s t

/-! ### Power -/

/-- A checkpoint whose snapshot carries the orderly flag is in flight (R135). -/
def OrderlyInFlight (s : State) : Prop :=
  ∃ (j : Fin 11) (snap : Checkpoint), s.store.port = some (.checkpoint j snap) ∧ snap.orderly = true

/-- R34: a unit in use begins a new window with disagreement count 0; one that is not in use is left alone. -/
def WindowOpened (p : PulseCfg) (u v : PulseUnit) : Prop :=
  v = if pulseInUse p then { u with running := true, windowTicks := 0, windowEdges := 0, disagree := 0 } else u

/-- R14, R34, R94, R159, R164: an ACTIVE entry from a state in which the link controller does not run: the entry at power
control, the link started with the gate shut, an urgent request under an active supply warning, new windows, elapsed
ticks 0, the IGN source FRESH where the part has one, and crank indication evaluated once. -/
structure ActiveEntered (s t : State) : Prop where
  power   : t.power.state = .active ∧ t.power.quietRunning = true ∧ t.power.quietCount = 0 ∧ t.power.pulseWake = none ∧
    t.power.settle = false ∧ t.lines.stby = false
  link    : t.bus.link = .active ∧ t.bus.gate = false ∧ t.bus.summaryCount = 0 ∧ t.bus.statusCount = 0
  store   : t.store = { s.store with urgent := s.store.urgent || s.lines.warning }
  windows : WindowOpened s.cfg.pulseA s.pulseA t.pulseA ∧ WindowOpened s.cfg.pulseB s.pulseB t.pulseB
  elapsed : t.faults.elapsed = 0
  ign     : s.cfg.ignPrio.isSome = true → IgnTaken s t
  noIgn   : s.cfg.ignPrio = none → t.cap = s.cap ∧ t.power.keyOpen = s.power.keyOpen ∧
    t.power.keyCycles = s.power.keyCycles ∧ t.bus.keyList = s.bus.keyList
  crank   : CrankEvaluated s t

/-- R135, R159, R163: CLOSING abandoned for ACTIVE: the entry at power control, the follow-up at the record store
controller with the urgent request of an active supply warning, new windows, elapsed ticks 0 and crank indication
evaluated once (R94). -/
structure ReturnsToActive (s t : State) : Prop where
  power     : t.power.state = .active ∧ t.power.cause = s.power.cause ∧ t.power.quietRunning = true ∧
    t.power.quietCount = 0 ∧ t.power.pulseWake = none ∧ t.power.settle = false
  followUp  : OrderlyInFlight s → t.store = { s.store with
    followUp := true, orderly := false, urgent := s.store.urgent || s.lines.warning }
  otherwise : ¬ OrderlyInFlight s → t.store = { s.store with
    normal := true, orderly := false, urgent := s.store.urgent || s.lines.warning }
  windows   : WindowOpened s.cfg.pulseA s.pulseA t.pulseA ∧ WindowOpened s.cfg.pulseB s.pulseB t.pulseB
  elapsed   : t.faults.elapsed = 0
  link      : t.bus.link = s.bus.link
  crank     : CrankEvaluated s t

/-- R157, R158: PARKED entry at power control, or with the WAKE line active the wake with cause BUS that follows it at
once. -/
structure ParksOrWakes (s t : State) : Prop where
  parks : s.lines.wake = false → t.power.state = .parked ∧ t.power.cause = s.power.cause ∧ t.lines.stby = true
  wakes : s.lines.wake = true →
    t.power.state = .waking ∧ t.power.cause = .bus ∧ t.power.settle = true ∧ t.lines.stby = false ∧
      (∀ i : Fin 27, t.cap.sources[i].state = .unknown ∧ t.cap.sources[i].value = 0) ∧
      BoardFresh s.cfg t.cap.sources t.cap.board
  both  : t.power.keyOpen = false ∧ t.power.pulseWake = none ∧ t.power.quietRunning = false ∧
    t.power.quietCount = 0 ∧ t.power.keyCycles = s.power.keyCycles ∧ t.bus.queue = [] ∧ t.bus.slot = .idle ∧
    t.cap.rx = []

/-- R184, R196: the STATUS frame of a state. -/
def statusNow (s : State) : TxFrame :=
  { kind := .status, origin := .status, ident := s.cfg.base + 48 + s.cfg.station,
    data := [BitVec.ofNat 8 (powerStateCode s.power.state + 16 * wakeCauseCode s.power.cause)] ++
      leBytes 3 s.power.keyCycles ++
      [BitVec.ofNat 8 (dueCount s), BitVec.ofNat 8 (unmaskedCount s), linkStateCode s.bus.link,
        if s.cfg.fallback then 1 else 0] }

/-! ### The start unit -/

/-- An attempt of the start unit is open (R80, the note on the open-attempt mark). -/
def attemptOpen : StartState → Bool
  | .off => false
  | .cranking => true
  | .confirming => true
  | .unverified => true
  | .running => false

/-- R90: an attempt left open is ended as unresolved: the unit OFF, its attempt context kept, and UNRESOLVED handed for
the engine slot where an attempt was open. That the stall timer's count stays is the model's choice (assumption
log 22). -/
structure AttemptEnded (s t : State) : Prop where
  unit     : s.cfg.start ≠ none → t.start.state = .off ∧ t.start.confirm = 0 ∧ t.start.stop = 0 ∧
    t.start.stallRunning = false
  context  : t.start.temp = s.start.temp ∧ t.start.crankTicks = s.start.crankTicks ∧
    t.start.overCrank = s.start.overCrank ∧ t.start.stallCount = s.start.stallCount
  resolved : ∀ (sc : StartCfg) (k : EngineTallies), s.cfg.start = some sc → attemptOpen s.start.state = true →
    s.comps.slots[sc.engine].tallies = .engine k → t.comps.slots[sc.engine] =
      { s.comps.slots[sc.engine] with
        tallies := .engine { k with unresolved := min max32 (k.unresolved + 1), openMark := false } }
  kept     : ∀ i : Fin 12, (∀ sc, s.cfg.start = some sc → sc.engine ≠ i ∨ attemptOpen s.start.state = false) →
    t.comps.slots[i] = s.comps.slots[i]
  rest     : t.comps = { s.comps with slots := t.comps.slots }

/-! ### The configuration image (Table 9-3) -/

/-- R156: the part-wide items. -/
structure PartItemsChecked (im : Image) (cfg : RunConfig) (items : List Nat) : Prop where
  fixed    : cfg.fallback = false ∧ cfg.layout = img16 im 2 ∧ (cfg.ignUsed = true ↔ img8 im 10 ≠ 0) ∧
    cfg.faultMasks = BitVec.ofNat 16 (img16 im 17) ∧ cfg.dueMasks = BitVec.ofNat 24 (img24 im 19)
  interval : if 600 ≤ img16 im 12 ∧ img16 im 12 ≤ 36000 then cfg.interval = img16 im 12 ∧ 92 ∉ items
    else cfg.interval = 3000 ∧ 92 ∈ items
  quiet    : if 10 ≤ img16 im 14 ∧ img16 im 14 ≤ 600 then cfg.quiet = img16 im 14 ∧ 93 ∉ items
    else cfg.quiet = 50 ∧ 93 ∈ items
  summary  : if 5 ≤ img8 im 16 ∧ img8 im 16 ≤ 100 then cfg.summary = img8 im 16 ∧ 94 ∉ items
    else cfg.summary = 10 ∧ 94 ∈ items
  station  : if img8 im 8 ≤ 15 then cfg.station = img8 im 8 ∧ 95 ∉ items else cfg.station = 15 ∧ 95 ∈ items
  base     : if img32 im 4 ≤ 0x1FFFFF00 ∧ img32 im 4 % 256 = 0 then cfg.base = img32 im 4 ∧ 96 ∉ items
    else cfg.base = 0x18F00000 ∧ 96 ∈ items
  bitRate  : (img8 im 9 = 0 → cfg.bitRate = .k125) ∧ (img8 im 9 = 1 → cfg.bitRate = .k250) ∧
    (img8 im 9 = 2 → cfg.bitRate = .k500) ∧ (2 < img8 im 9 → cfg.bitRate = .k250) ∧ (97 ∈ items ↔ 2 < img8 im 9)

/-- R109, R5: the component slots and their identity sources; that a slot with both rejected raises twice is the
model's reading (assumption log 39). -/
structure SlotsChecked (im : Image) (cfg : RunConfig) (items : List Nat) : Prop where
  cls      : ∀ (n : Fin 12) (k : Machine.Class), cfg.classes[n] = some k ↔ img8 im (442 + n.val) = (classCode k).toNat
  identity : ∀ (n : Fin 12) (x : IdentSrc), cfg.identity[n] = some x ↔
    img32 im (382 + 5 * n.val) = x.ident + (if x.ext then 2 ^ 29 else 0) ∧ x.ident < 2 ^ 29 ∧
      (x.ext = false → x.ident ≤ 0x7FF) ∧ x.offset = img8 im (382 + 5 * n.val + 4) ∧ x.offset ≤ 4
  raised   : ∀ n : Fin 12, 80 + n.val ∈ items ↔
    (img8 im (442 + n.val) ≠ 0xFF ∧ cfg.classes[n] = none) ∨
      (img32 im (382 + 5 * n.val) ≠ 0xFFFFFFFF ∧ cfg.identity[n] = none)
  times    : ∀ n : Fin 12, items.count (80 + n.val) =
    (if img8 im (442 + n.val) ≠ 0xFF ∧ cfg.classes[n] = none then 1 else 0) +
      (if img32 im (382 + 5 * n.val) ≠ 0xFFFFFFFF ∧ cfg.identity[n] = none then 1 else 0)

/-- R36: the band tables. -/
structure BandsChecked (im : Image) (cfg : RunConfig) (items : List Nat) : Prop where
  absent : ∀ t : Fin 10, cfg.bands[t] = .absent ↔ img8 im (454 + 15 * t.val) = 0xFF
  valid  : ∀ (t : Fin 10) (l : List Int), cfg.bands[t] = .valid l ↔
    img8 im (454 + 15 * t.val) = l.length ∧ 1 ≤ l.length ∧ l.length ≤ 7 ∧ l.Pairwise (· < ·) ∧
      ∀ (i : Nat) (h : i < l.length), l[i] = imgS16 im (454 + 15 * t.val + 1 + 2 * i)
  raised : ∀ t : Fin 10, 32 + t.val ∈ items ↔ cfg.bands[t] = .rejected

/-- R6: the items of map entry `n` in the image, every one in its range. -/
structure EntryItems (im : Image) (n : Fin 24) (e : MapEntry) : Prop where
  ident  : img32 im (22 + 15 * n.val) = e.ident + (if e.ext then 2 ^ 29 else 0) ∧ e.ident < 2 ^ 29 ∧
    (e.ext = false → e.ident ≤ 0x7FF)
  target : img8 im (22 + 15 * n.val + 4) = e.target.val ∧ e.target ≠ sClutchSlip
  place  : img8 im (22 + 15 * n.val + 5) = e.start + 16 * e.bitOffset ∧ e.start ≤ 7 ∧ e.bitOffset ≤ 7
  width  : img8 im (22 + 15 * n.val + 6) % 32 = e.len ∧ 1 ≤ e.len ∧ e.len ≤ 16 ∧
    (e.bigEndian = true ↔ 128 ≤ img8 im (22 + 15 * n.val + 6))
  fits   : 8 * e.start + e.bitOffset + e.len ≤ 64
  scale  : img16 im (22 + 15 * n.val + 7) = e.gain ∧ 1 ≤ e.gain ∧ img8 im (22 + 15 * n.val + 9) = e.shift ∧
    e.shift ≤ 15 ∧ imgS16 im (22 + 15 * n.val + 10) = e.offset
  timers : img8 im (22 + 15 * n.val + 12) = e.timeout ∧ 1 ≤ e.timeout ∧ e.timeout ≤ 250 ∧
    img8 im (22 + 15 * n.val + 13) = e.hold ∧ e.hold ≤ 250
  prio   : img8 im (22 + 15 * n.val + 14) = e.prio ∧ e.prio ≤ 7

/-- R6, R15: the signal map entries; one that shares the priority of an earlier source of its signal is rejected. -/
structure EntriesChecked (im : Image) (cfg : RunConfig) (items : List Nat) : Prop where
  valid  : ∀ (n : Fin 24) (e : MapEntry), cfg.entries[n] = some e ↔
    EntryItems im n e ∧
      ∀ (j : Fin 24) (d : MapEntry), j < n → cfg.entries[j] = some d → d.target = e.target → d.prio ≠ e.prio
  raised : ∀ n : Fin 24, n.val ∈ items ↔ img8 im (22 + 15 * n.val + 4) ≠ 0xFF ∧ cfg.entries[n] = none

/-- R13, R15, R23: a pulse unit with its items from `a` and its source number; `taken` says that an earlier source of
the signal has the priority. -/
structure PulseChecked (im : Image) (a src : Nat) (p : PulseCfg) (taken : Sig → Nat → Prop) (items : List Nat) :
    Prop where
  unused   : p.status = .notInUse ↔ img8 im a = 0
  rejected : p.status = .unitRejected ↔ img8 im a ≠ 0 ∧
    ¬ (img8 im a = 1 ∧ img8 im (a + 1) ≤ 2 ∧ 1 ≤ img8 im (a + 2) ∧ 1 ≤ img8 im (a + 5) ∧ img8 im (a + 5) ≤ 250 ∧
      img8 im (a + 6) ≤ 250 ∧ img8 im (a + 7) ≤ 1 ∧ 1 ≤ img8 im (a + 8) ∧ img8 im (a + 8) ≤ 50)
  parts    : pulseInUse p = true →
    img8 im (a + 1) = (match p.edge with | .rising => 0 | .falling => 1 | .both => 2) ∧ p.teeth = img8 im (a + 2) ∧
      p.timeout = img8 im (a + 5) ∧ p.hold = img8 im (a + 6) ∧ (p.wakeEnable = true ↔ img8 im (a + 7) = 1) ∧
      p.tolerance = img8 im (a + 8)
  noTarget : pulseInUse p = true → (p.status = .noSource ↔ img8 im (a + 3) = 0xFF)
  source   : pulseInUse p = true → (p.status = .hasSource ↔
    img8 im (a + 3) = p.target.val ∧ (p.target = sPropSpeed ∨ p.target = sInputShaftSpeed) ∧
      p.prio = img8 im (a + 4) ∧ p.prio ≤ 7 ∧ ¬ taken p.target p.prio)
  raised   : src ∈ items ↔ p.status = .unitRejected ∨ p.status = .sourceRejected

/-- R14, R15: the IGN source, whose signal only map entries feed beside it. -/
structure IgnChecked (im : Image) (cfg : RunConfig) (items : List Nat) : Prop where
  valid  : ∀ p : Nat, cfg.ignPrio = some p ↔ img8 im 10 ≠ 0 ∧ p = img8 im 11 ∧ p ≤ 7 ∧
    ∀ (j : Fin 24) (d : MapEntry), cfg.entries[j] = some d → d.target = sKeyState → d.prio ≠ p
  raised : 26 ∈ items ↔ img8 im 10 ≠ 0 ∧ cfg.ignPrio = none

/-- R38: a pairing of a signal with a table it can use. -/
def PairSound (cfg : RunConfig) (sig table : Nat) : Prop :=
  ∃ (x : Sig) (t : Fin 10) (l : List Int), x.val = sig ∧ t.val = table ∧ cfg.bands[t] = .valid l ∧
    ∀ v ∈ l, sigLow x ≤ v ∧ v ≤ sigHigh x

/-- R39, R41, R97: a pairing that fails for its table's rejection alone, which raises nothing of its own. -/
def PairSilent (cfg : RunConfig) (sig table : Nat) : Prop :=
  sig ≤ 13 ∧ ∃ t : Fin 10, t.val = table ∧ cfg.bands[t] = .rejected

/-- Both axes, from byte `a` of the image, can be used. -/
def AxesSound (im : Image) (cfg : RunConfig) (a : Nat) : Prop :=
  PairSound cfg (img8 im a) (img8 im (a + 1)) ∧ PairSound cfg (img8 im (a + 2)) (img8 im (a + 3))

/-- An axis, from byte `a` of the image, that raises CFG_ITEM. -/
def AxesLoud (im : Image) (cfg : RunConfig) (a : Nat) : Prop :=
  (¬ PairSound cfg (img8 im a) (img8 im (a + 1)) ∧ ¬ PairSilent cfg (img8 im a) (img8 im (a + 1))) ∨
    (¬ PairSound cfg (img8 im (a + 2)) (img8 im (a + 3)) ∧ ¬ PairSilent cfg (img8 im (a + 2)) (img8 im (a + 3)))

/-- R38, R39: the weight maps. -/
structure MapsChecked (im : Image) (cfg : RunConfig) (items : List Nat) : Prop where
  absent   : ∀ m : Fin 6, cfg.maps[m] = .absent ↔ img8 im (604 + 134 * m.val) = 0xFF
  degraded : ∀ m : Fin 6, img8 im (604 + 134 * m.val) ≠ 0xFF → ¬ AxesSound im cfg (604 + 134 * m.val) →
    cfg.maps[m] = .degraded (img16 im (604 + 134 * m.val + 4))
  valid    : ∀ m : Fin 6, img8 im (604 + 134 * m.val) ≠ 0xFF → AxesSound im cfg (604 + 134 * m.val) →
    ∃ x xt y yt w, cfg.maps[m] = .valid x xt y yt (img16 im (604 + 134 * m.val + 4)) w ∧
      x.val = img8 im (604 + 134 * m.val) ∧ xt.val = img8 im (604 + 134 * m.val + 1) ∧
      y.val = img8 im (604 + 134 * m.val + 2) ∧ yt.val = img8 im (604 + 134 * m.val + 3) ∧
      ∀ i : Fin 64, w[i] = img16 im (604 + 134 * m.val + 6 + 2 * i.val)
  raised   : ∀ m : Fin 6, 42 + m.val ∈ items ↔
    img8 im (604 + 134 * m.val) ≠ 0xFF ∧ AxesLoud im cfg (604 + 134 * m.val)

/-- R41: a factor table's signal is a temperature and its table can be used. -/
def FactorSound (im : Image) (cfg : RunConfig) (a : Nat) : Prop :=
  (img8 im a = 2 ∨ img8 im a = 8 ∨ img8 im a = 11) ∧ PairSound cfg (img8 im a) (img8 im (a + 1))

/-- R38, R41: the factor tables. -/
structure FactorsChecked (im : Image) (cfg : RunConfig) (items : List Nat) : Prop where
  absent   : ∀ t : Fin 3, cfg.factors[t] = .absent ↔ img8 im (1408 + 18 * t.val) = 0xFF
  degraded : ∀ t : Fin 3, img8 im (1408 + 18 * t.val) ≠ 0xFF → ¬ FactorSound im cfg (1408 + 18 * t.val) →
    cfg.factors[t] = .degraded
  valid    : ∀ t : Fin 3, img8 im (1408 + 18 * t.val) ≠ 0xFF → FactorSound im cfg (1408 + 18 * t.val) →
    ∃ x b k, cfg.factors[t] = .valid x b k ∧ x.val = img8 im (1408 + 18 * t.val) ∧
      b.val = img8 im (1408 + 18 * t.val + 1) ∧ ∀ i : Fin 8, k[i] = img16 im (1408 + 18 * t.val + 2 + 2 * i.val)
  raised   : ∀ t : Fin 3, 48 + t.val ∈ items ↔
    img8 im (1408 + 18 * t.val) ≠ 0xFF ∧ ¬ FactorSound im cfg (1408 + 18 * t.val) ∧
      ¬ ((img8 im (1408 + 18 * t.val) = 2 ∨ img8 im (1408 + 18 * t.val) = 8 ∨ img8 im (1408 + 18 * t.val) = 11) ∧
        PairSilent cfg (img8 im (1408 + 18 * t.val)) (img8 im (1408 + 18 * t.val + 1)))

/-- R52: a gate term with its signal at byte `a`. -/
def TermItems (im : Image) (a : Nat) (g : GateTerm) : Prop :=
  g.signal.val = img8 im a ∧ g.low = imgS16 im (a + 1) ∧ g.high = imgS16 im (a + 3) ∧ g.low ≤ g.high

/-- R52, R53: the items of a channel from byte `a` of the image, every one in its range; a revolution source field of 3
names nothing (assumption log 45). -/
structure ChannelItems (im : Image) (cfg : RunConfig) (a : Nat) (cc : ChanCfg) : Prop where
  flags      : img8 im a % 128 = 1 + 2 * (match cc.policy with | .closed => 0 | .opened => 1 | .hold => 2) +
    (match cc.weight with | .constant _ => 0 | .map _ => 8) + (match cc.basis with | .hours => 0 | .wear => 16) +
    32 * (match cc.revSource with | none => 0 | some .a => 1 | some .b => 2)
  slot       : cc.slot.val = img8 im (a + 1) ∧ cfg.classes[cc.slot] ≠ none
  term1      : TermItems im (a + 2) cc.term1
  term2      : match cc.term2 with | none => img8 im (a + 7) = 0xFF | some g => TermItems im (a + 7) g
  qualify    : cc.qualify = img8 im (a + 12) ∧ cc.qualify ≤ 50
  separation : cc.separation = img16 im (a + 13) ∧ cc.separation ≤ 3000
  weight     : match cc.weight with
    | .constant w => w = img16 im (a + 15)
    | .map m => m.val = img16 im (a + 15) ∧ cfg.maps[m] ≠ .absent
  factor     : match cc.factor with
    | none => img8 im (a + 17) = 0xFF
    | some f => f.val = img8 im (a + 17) ∧ cfg.factors[f] ≠ .absent
  threshold  : cc.threshold = img32 im (a + 18)

/-- R53: the channels, in channel order, at most four to a slot. -/
structure ChannelsChecked (im : Image) (cfg : RunConfig) (items : List Nat) : Prop where
  valid  : ∀ (c : Fin 24) (cc : ChanCfg), cfg.channels[c] = some cc ↔
    ChannelItems im cfg (1462 + 22 * c.val) cc ∧
      ((List.finRange 24).filter fun (d : Fin 24) =>
        decide (d < c) && cfg.channels[d].any fun x => decide (x.slot = cc.slot)).length < 4
  raised : ∀ c : Fin 24, 51 + c.val ∈ items ↔ img8 im (1462 + 22 * c.val) % 2 = 1 ∧ cfg.channels[c] = none

/-- R79: the items of the start unit, an unset one at its default. -/
structure StartItems (im : Image) (cfg : RunConfig) (sc : StartCfg) : Prop where
  engine  : sc.engine.val = img8 im 2028 ∧ cfg.classes[sc.engine] = some .engine
  starter : ∀ i : Fin 12, sc.starter = some i ↔ i.val = img8 im 2029 ∧ cfg.classes[i] = some .starter
  run     : sc.run = (if img16 im 2030 = 0xFFFF then 400 else img16 im 2030) ∧ 1 ≤ sc.run ∧ sc.run ≤ 8000
  stop    : sc.stop = (if img16 im 2032 = 0xFFFF then 150 else img16 im 2032) ∧ sc.stop ≤ 7999 ∧ sc.stop < sc.run
  confirm : sc.confirm = (if img8 im 2034 = 0xFF then 20 else img8 im 2034) ∧ 1 ≤ sc.confirm ∧ sc.confirm ≤ 100
  ticks   : sc.stopTicks = (if img8 im 2035 = 0xFF then 10 else img8 im 2035) ∧ 1 ≤ sc.stopTicks ∧ sc.stopTicks ≤ 100
  limit   : sc.crankLimit = (if img16 im 2036 = 0xFFFF then 300 else img16 im 2036) ∧ 10 ≤ sc.crankLimit ∧
    sc.crankLimit ≤ 600
  cold    : sc.cold = (if img8 im 2038 = 0xFF then 5 else (img8 im 2038 : Int) - 40) ∧ sc.cold ≤ 150
  stall   : sc.stall = (if img16 im 2039 = 0xFFFF then 600 else img16 im 2039) ∧ sc.stall ≤ 6000

/-- R79: the start unit and its starter part. -/
structure StartChecked (im : Image) (cfg : RunConfig) (items : List Nat) : Prop where
  valid  : ∀ sc : StartCfg, cfg.start = some sc ↔ StartItems im cfg sc
  raised : 75 ∈ items ↔ (img8 im 2028 ≠ 0xFF ∧ cfg.start = none) ∨
    (img8 im 2029 ≠ 0xFF ∧ ∃ sc, cfg.start = some sc ∧ sc.starter = none)

/-- R97: the spectrum units, in unit order, one to an owner. -/
structure SpectraChecked (im : Image) (cfg : RunConfig) (items : List Nat) : Prop where
  owner  : ∀ (u : Fin 4) (c : Fin 24), (∃ sc, cfg.spectra[u] = some sc ∧ sc.owner = c) ↔
    c.val = img8 im (1990 + 5 * u.val) ∧ cfg.channels[c] ≠ none ∧
      ∀ (v : Fin 4) (sc : SpecCfg), v < u → cfg.spectra[v] = some sc → sc.owner ≠ c
  axes   : ∀ (u : Fin 4) (sc : SpecCfg), cfg.spectra[u] = some sc →
    (¬ AxesSound im cfg (1990 + 5 * u.val + 1) → sc.axes = none) ∧
    (AxesSound im cfg (1990 + 5 * u.val + 1) → ∃ x xt y yt, sc.axes = some (x, xt, y, yt) ∧
      x.val = img8 im (1990 + 5 * u.val + 1) ∧ xt.val = img8 im (1990 + 5 * u.val + 2) ∧
      y.val = img8 im (1990 + 5 * u.val + 3) ∧ yt.val = img8 im (1990 + 5 * u.val + 4))
  raised : ∀ u : Fin 4, 76 + u.val ∈ items ↔ img8 im (1990 + 5 * u.val) ≠ 0xFF ∧
    (cfg.spectra[u] = none ∨ AxesLoud im cfg (1990 + 5 * u.val + 1))

/-- R156: the running configuration and the CFG_ITEM numbers of a valid image, each check in the light of those before
it (Table 9-3). The fields say of each number whether it is raised; none but these is, and none but a slot's twice. -/
structure ImageChecked (im : Image) (cfg : RunConfig) (items : List Nat) : Prop where
  part     : PartItemsChecked im cfg items
  slots    : SlotsChecked im cfg items
  bands    : BandsChecked im cfg items
  entries  : EntriesChecked im cfg items
  pulseA   : PulseChecked im 2010 24 cfg.pulseA
    (fun sig p => ∃ (j : Fin 24) (d : MapEntry), cfg.entries[j] = some d ∧ d.target = sig ∧ d.prio = p) items
  pulseB   : PulseChecked im 2019 25 cfg.pulseB
    (fun sig p => (∃ (j : Fin 24) (d : MapEntry), cfg.entries[j] = some d ∧ d.target = sig ∧ d.prio = p) ∨
      (cfg.pulseA.status = .hasSource ∧ cfg.pulseA.target = sig ∧ cfg.pulseA.prio = p)) items
  ign      : IgnChecked im cfg items
  maps     : MapsChecked im cfg items
  factors  : FactorsChecked im cfg items
  channels : ChannelsChecked im cfg items
  start    : StartChecked im cfg items
  spectra  : SpectraChecked im cfg items
  numbers  : ∀ n ∈ items, n ≤ 26 ∨ (32 ≤ n ∧ n ≤ 97)
  once     : ∀ n : Nat, n < 80 ∨ 91 < n → items.count n ≤ 1

/-! ### Stored records -/

/-- Tallies that four bytes a count can carry. -/
def TalliesFit : Tallies → Prop
  | .none => True
  | .engine t => t.attempts ≤ max32 ∧ t.starts ≤ max32 ∧ t.failed ≤ max32 ∧ t.unresolved ≤ max32 ∧ t.cold ≤ max32 ∧
      t.stalls ≤ max32
  | .starter t => t.engagements ≤ max32 ∧ t.crankTicks ≤ max32 ∧ t.overCranks ≤ max32 ∧ t.hotCranks ≤ max32

/-- A history entry whose fields fit their bytes (R198). -/
structure EntryFits (e : HistEntry) : Prop where
  seq      : e.seq ≤ max32
  identity : ∀ v, e.identity = some v → v ≤ max32
  fields   : e.generation ≤ max16 ∧ e.install ≤ max32 ∧ e.closeKey ≤ max32
  chans    : e.chans.length ≤ 4 ∧ ∀ c ∈ e.chans,
    c.hours ≤ max32 ∧ c.estHours ≤ max32 ∧ c.wear ≤ max32 ∧ c.episodes ≤ max32 ∧ c.revs ≤ max32
  tallies  : TalliesFit e.tallies

/-- A checkpoint whose items fit the widths the manual gives them (Table 8-2). -/
structure CheckpointFits (c : Checkpoint) : Prop where
  head       : c.layout ≤ max16 ∧ 1 ≤ c.seq ∧ c.seq ≤ max32 ∧ c.keyCycles ≤ max32 ∧ c.unclosed ≤ max16 ∧
    c.torn ≤ max16 ∧ c.lifetimeA ≤ max32 ∧ c.lifetimeB ≤ max32 ∧ c.nextSeq ≤ max32
  components : ∀ i : Fin 12, (∀ v, c.components[i].identity = some v → v ≤ max32) ∧
    c.components[i].generation ≤ max16 ∧ c.components[i].install ≤ max32 ∧ c.components[i].bound.length ≤ 4 ∧
    TalliesFit c.components[i].tallies
  channels   : ∀ i : Fin 24, c.channels[i].hours ≤ max32 ∧ c.channels[i].estHours ≤ max32 ∧
    c.channels[i].wear ≤ max32 ∧ c.channels[i].episodes ≤ max32 ∧ c.channels[i].revs ≤ max32 ∧
    c.channels[i].hourPre ≤ max16 ∧ c.channels[i].estPre ≤ max16 ∧ c.channels[i].wearAcc ≤ max24 ∧
    c.channels[i].clip ≤ max16
  spectra    : ∀ u : Fin 4, (∀ b : Fin 64, c.spectra[u].bins[b] ≤ max24) ∧ c.spectra[u].scale ≤ max8 ∧
    c.spectra[u].divider ≤ max16 ∧ c.spectra[u].unclassified ≤ max32
  faults     : (∀ k : Fin 14, c.faults.counts[k] ≤ max8) ∧ ∀ x, c.faults.capture = some x →
    x.keyCycle ≤ max32 ∧ x.elapsed ≤ max32 ∧ ∀ n, x.index = some n → n < 255
  queue      : c.queue.length ≤ 4 ∧ ∀ e ∈ c.queue, EntryFits e

/-! ### Invariants -/

/-- The output lines follow the state: STBY is asserted in LOADING and PARKED (R167), FAULT in ACTIVE and CLOSING while
an unmasked kind is set (R173), DUE in ACTIVE while a channel with a clear due mask has its due set mark set (R176).
Without supply no line is asserted (assumption log 12). -/
structure LinesFollow (s : State) : Prop where
  stby  : s.lines.stby = true ↔ s.power.state = .loading ∨ s.power.state = .parked
  fault : s.lines.fault = true ↔ (s.power.state = .active ∨ s.power.state = .closing) ∧
    ∃ k : FaultKind, statusOf s.faults k = true ∧ s.cfg.faultMasks.getLsbD (kindIndex k).val = false
  due   : s.lines.due = true ↔ s.power.state = .active ∧
    ∃ c : Fin 24, s.faults.dueSet[c] = true ∧ s.cfg.dueMasks.getLsbD c.val = false

/-- The word offset of a store request is one that block 0 has, and a word is four bytes (R147, R191). -/
def reqInside : StoreReq → Prop
  | .readHistory _ => True
  | .readConfig o => o ≤ 511
  | .writeConfig o bs => o ≤ 511 ∧ bs.length ≤ 4

/-- The same of an operation in flight; a history record is 256 bytes (R198). -/
def opInside : StoreOp → Prop
  | .checkpoint _ _ => True
  | .historyWrite _ bs => bs.length ≤ 256
  | .historyRead _ _ _ => True
  | .configRead o => o ≤ 511
  | .configWrite o bs => o ≤ 511 ∧ bs.length ≤ 4
  | .wipe => True

/-- The bytes of the store are in canonical form, every operation on them stays inside block 0 or its region
(Table 8-1, R147), and the wipe-running mark is set exactly while a wipe is in flight (R148). -/
structure StoreSound (s : State) : Prop where
  bytes : memWf s.nvm = true
  port  : ∀ op, s.store.port = some op → opInside op
  slot  : ∀ req begun, s.bus.slot = .waitingStore req begun → reqInside req
  wipe  : s.store.wipeRunning = true ↔ s.store.port = some .wipe

/-- The frames of a list in ascending identifier order (R179). -/
def Ordered (q : List TxFrame) : Prop := q.Pairwise fun f g => f.ident ≤ g.ident

/-- The transmit queue holds at most 8 frames; they are in identifier order, but for a head that is offered or
whose offer was withdrawn (R179); an offered frame exists, and only while the gate is open, the link controller
runs and the link is not LINK_OFF (R179, R181). -/
structure TransmitSound (s : State) : Prop where
  bound   : s.bus.queue.length ≤ 8
  free    : s.bus.offer = .none → Ordered s.bus.queue
  behind  : s.bus.offer ≠ .none → Ordered s.bus.queue.tail
  offered : s.bus.offer = .offered → s.bus.queue ≠ [] ∧ s.bus.gate = true ∧ linkRunning s = true ∧ s.bus.link ≠ .off

/-- The newest valid slot is valid with the sequence the index gives, and under a stored image no valid slot holds a
higher one; no checkpoint write targets it, and the slot under write holds no valid checkpoint; a sequence in flight is
the last one issued, from 1 up and above that of the newest valid slot (R137, R138, R142). -/
structure NewestSound (s : State) : Prop where
  held   : ∀ j, s.store.newest = some j → slotAt s.nvm j = .valid s.store.newestSeq
  top    : s.cfg.fallback = false → ∀ (k : Fin 11) (seq : Nat), slotAt s.nvm k = .valid seq →
    s.store.newest ≠ none ∧ seq ≤ s.store.newestSeq
  issued : s.store.newest ≠ none → s.store.newestSeq ≤ s.store.lastIssued
  spared : ∀ j k c, s.store.newest = some j → s.store.port = some (.checkpoint k c) → k ≠ j
  flight : ∀ k c, s.store.port = some (.checkpoint k c) →
    (∀ seq, slotAt s.nvm k ≠ .valid seq) ∧ c.seq = s.store.lastIssued ∧ 1 ≤ c.seq ∧ c.seq ≤ max32 ∧
      (s.store.newest ≠ none → s.store.newestSeq < c.seq)

/-- Each channel's flags and the fault unit's due set mark say what the channel's counters say (R54, R65, R67,
R176). -/
structure FlagsSound (s : State) : Prop where
  enabled  : ∀ (c : Fin 24) cc, s.cfg.channels[c] = some cc →
    s.chans[c].due = dueTest cc s.chans[c] ∧ s.chans[c].saturated = anySaturated s.chans[c] ∧
      s.faults.dueSet[c] = s.chans[c].due
  disabled : ∀ c : Fin 24, s.cfg.channels[c] = none → s.chans[c] = Channel.disabled ∧ s.faults.dueSet[c] = false

/-- R80: the balance of an engine record. -/
def Balanced (t : EngineTallies) : Prop :=
  t.attempts = t.starts + t.failed + t.unresolved + markBit t.openMark 1 ∧ t.attempts ≤ max32

/-- The engine records of a checkpoint balance, and only the record its open-attempt flag names holds the mark
(R80, R93). -/
def CheckpointBalanced (c : Checkpoint) : Prop :=
  ∀ (i : Fin 12) t, c.components[i].tallies = .engine t →
    Balanced t ∧ (t.openMark = true → c.openAttempt = some i)

/-- Every engine record balances, and holds the open-attempt mark exactly while the start unit, in use with that
engine slot, has an attempt open; the checkpoints in the journal and in flight balance too (R80, R91, R93). -/
structure TalliesSound (s : State) : Prop where
  records : ∀ (i : Fin 12) t, s.comps.slots[i].tallies = .engine t →
    Balanced t ∧
      (t.openMark = true ↔ ∃ sc, s.cfg.start = some sc ∧ sc.engine = i ∧ attemptOpen s.start.state = true)
  engine  : ∀ sc, s.cfg.start = some sc → ∃ t, s.comps.slots[sc.engine].tallies = .engine t
  idle    : s.cfg.start = none → attemptOpen s.start.state = false
  journal : ∀ (j : Fin 11) seq, slotAt s.nvm j = .valid seq → CheckpointBalanced (checkpointAt s.nvm j)
  flight  : ∀ k c, s.store.port = some (.checkpoint k c) → CheckpointBalanced c

/-- While the link controller does not run, bus traffic holds nothing and signal capture has no frame (R157,
R193, Table 9-1): a service operation still in flight has its result discarded (R132). -/
structure StoppedLinkSound (s : State) : Prop where
  rx      : linkRunning s = false → s.cap.rx = []
  queue   : linkRunning s = false → s.bus.queue = []
  gate    : linkRunning s = false → s.bus.gate = false
  keyList : linkRunning s = false → s.bus.keyList = []
  slot    : linkRunning s = false → s.bus.slot = .idle
  burst   : linkRunning s = false → s.bus.burst = []
  discard : ∀ op, linkRunning s = false → s.store.port = some op → serviceOp op = true → s.store.discard = true
  linkOff : linkRunning s = false → s.faults.linkOff = none

/-- R1: the receive queue holds at most 16 frames; R120: the history write queue at most 4 entries, in every
checkpoint too. -/
structure QueuesSound (s : State) : Prop where
  rx      : s.cap.rx.length ≤ 16
  queue   : s.comps.queue.length ≤ 4
  journal : ∀ j : Fin 11, (checkpointAt s.nvm j).queue.length ≤ 4
  flight  : ∀ k c, s.store.port = some (.checkpoint k c) → c.queue.length ≤ 4

/-! ### Answer blocks (R197, Table 12-2) -/

/-- A block holds these bytes from byte `off` on. -/
def Field (block : List Byte) (off : Nat) (bytes : List Byte) : Prop := (block.drop off).take bytes.length = bytes

/-- R197: READ SIGNAL with the selector SIGNAL. -/
structure SignalFields (b : BoardSig) (block : List Byte) : Prop where
  length : block.length = 15
  result : byteAt block 0 = 0
  state  : byteAt block 1 = (match b.state with
    | .unknown => 0 | .fresh => 1 | .held => 2 | .stale => 3 | .unavailable => 4 | .faulted => 5 | .absent => 6)
  value  : (leNat ((block.drop 2).take 2) : Int) = b.value % 65536
  active : (b.active = none → byteAt block 4 = 0xFF) ∧ (∀ x, b.active = some x → (byteAt block 4).toNat = x.val)
  rest   : block.drop 5 = List.replicate 10 0

/-- R19, R35, R197: READ SIGNAL with the selector SOURCE; what is rejected or not configured reads as UNKNOWN. -/
structure SourceFields (s : State) (x : Src) (block : List Byte) : Prop where
  length   : block.length = 15
  result   : byteAt block 0 = 0
  none     : byteAt block 4 = 0xFF
  valid    : (srcItems s.cfg x).isSome = true →
    byteAt block 1 = (match s.cap.sources[x].state with
      | .unknown => 0 | .fresh => 1 | .held => 2 | .stale => 3 | .unavailable => 4 | .faulted => 5 | .absent => 6) ∧
    (leNat ((block.drop 2).take 2) : Int) = s.cap.sources[x].value % 65536 ∧
    (x.val < 24 → Field block 5 (leBytes 2 s.cap.sources[x].frames ++ leBytes 2 s.cap.sources[x].since))
  rejected : (srcItems s.cfg x).isSome = false → Field block 1 [0, 0, 0]
  noFrames : (srcItems s.cfg x).isSome = false ∨ 24 ≤ x.val → Field block 5 [0, 0, 0xFF, 0xFF]
  noPulse  : x ≠ 24 → x ≠ 25 → Field block 9 [0, 0, 0, 0, 0, 0xFF]
  pulse    : ∀ p u, (x = 24 ∧ p = s.cfg.pulseA ∧ u = s.pulseA) ∨ (x = 25 ∧ p = s.cfg.pulseB ∧ u = s.pulseB) →
    Field block 9 (leBytes 4 u.lifetime) ∧
    (match p.status with
      | .notInUse => Field block 13 [0, 0]
      | .unitRejected => Field block 13 [0, 1]
      | .noSource => Field block 13 [BitVec.ofNat 8 u.disagree, 2]
      | .sourceRejected => Field block 13 [BitVec.ofNat 8 u.disagree, 3]
      | .hasSource => Field block 13 [BitVec.ofNat 8 u.disagree, 4])

/-- R197: READ CHANNEL. -/
structure ChannelFields (ch : Channel) (block : List Byte) : Prop where
  length   : block.length = 44
  result   : byteAt block 0 = 0
  state    : byteAt block 1 = (match ch.state with
    | .disabled => 0 | .idle => 1 | .qualifying => 2 | .running => 3 | .lingering => 4)
  flags    : (byteAt block 2).toNat = markBit ch.due 1 + markBit ch.saturated 2
  counters : Field block 4 (leBytes 4 ch.hours ++ leBytes 4 ch.estHours ++ leBytes 4 ch.wear ++ leBytes 4 ch.episodes ++
    leBytes 4 ch.revs)
  parts    : Field block 24 (leBytes 2 ch.hourPre ++ leBytes 2 ch.estPre ++ leBytes 3 ch.wearAcc ++ leBytes 2 ch.clip)
  counts   : Field block 33 (leBytes 1 ch.qualify ++ leBytes 2 ch.linger)
  unstaged : ch.staged = none → byteAt block 3 = 0 ∧ block.drop 36 = List.replicate 8 0
  staged   : ∀ p, ch.staged = some p → block.drop 36 = leBytes 4 p.value ++ leBytes 4 p.base ∧
    byteAt block 3 = (match p.quantity with | .hours => 1 | .wear => 2 | .episodes => 3 | .revolutions => 4)

/-- R197: READ COMPONENT of a slot of class `cls`. -/
structure ComponentFields (s : State) (i : Fin 12) (cls : Machine.Class) (block : List Byte) : Prop where
  length     : block.length = 51
  result     : byteAt block 0 = 0
  cls        : byteAt block 1 = (match cls with
    | .engine => 0 | .starter => 1 | .clutch => 2 | .gearbox => 3 | .retarder => 4 | .propshaft => 5 | .axle => 6
    | .transfer => 7 | .pto => 8)
  state      : byteAt block 2 = (match s.comps.slots[i].state with | .unidentified => 0 | .present => 1 | .candidate => 2)
  flags      : (byteAt block 3).toNat =
    markBit s.comps.slots[i].identity.isSome 1 + markBit s.comps.slots[i].candidate.isSome 2 +
      (match s.comps.slots[i].tallies with | .none => 0 | .engine t => 16 + markBit t.openMark 4 | .starter _ => 32)
  confirm    : Field block 4 (leBytes 1 s.comps.slots[i].confirm)
  identity   : ∀ v, s.comps.slots[i].identity = some v → Field block 5 (leBytes 4 v)
  candidate  : ∀ v, s.comps.slots[i].candidate = some v → Field block 9 (leBytes 4 v)
  generation : Field block 13 (leBytes 2 s.comps.slots[i].generation ++ leBytes 4 s.comps.slots[i].install)
  engine     : ∀ t, s.comps.slots[i].tallies = .engine t →
    Field block 19 (leBytes 4 t.attempts ++ leBytes 4 t.starts ++ leBytes 4 t.failed ++ leBytes 4 t.unresolved ++
      leBytes 4 t.cold ++ leBytes 4 t.stalls)
  starter    : ∀ t, s.comps.slots[i].tallies = .starter t →
    Field block 19 (leBytes 4 t.engagements ++ leBytes 4 t.crankTicks ++ leBytes 4 t.overCranks ++
      leBytes 4 t.hotCranks ++ List.replicate 8 0)
  start      : ∀ sc, s.cfg.start = some sc → sc.engine = i →
    byteAt block 43 = (match s.start.state with
      | .off => 0 | .cranking => 1 | .confirming => 2 | .unverified => 3 | .running => 4) ∧
    (byteAt block 44).toNat = (match s.start.temp with | .cold => 0 | .warm => 1 | .unknown => 2) +
      markBit s.start.overCrank 4 + markBit s.start.stallRunning 8 ∧
    Field block 45 (leBytes 2 s.start.crankTicks ++ leBytes 1 s.start.confirm ++ leBytes 1 s.start.stop ++
      leBytes 2 s.start.stallCount)
  noStart    : (∀ sc, s.cfg.start = some sc → sc.engine ≠ i) → block.drop 43 = List.replicate 8 0

/-- R197: READ SPECTRUM from bin `first`; a bin above 63 reads 0 (Table of R190: a first bin index of 0 to 56). -/
structure SpectrumFields (sc : SpecCfg) (r : Spectrum) (first : Nat) (block : List Byte) : Prop where
  length : block.length = 35
  result : byteAt block 0 = 0
  owner  : (byteAt block 1).toNat = sc.owner.val
  flags  : (byteAt block 2).toNat = markBit sc.axes.isNone 1 + markBit r.satReported 2
  counts : Field block 3 (leBytes 1 r.scale ++ leBytes 2 r.divider ++ leBytes 4 r.unclassified ++ leBytes 1 first)
  bins   : first ≤ 56 → ∀ i : Nat, i < 8 → ∀ n, r.bins[first + i]? = some n → Field block (11 + 3 * i) (leBytes 3 n)

/-- R197: READ FAULTS. -/
structure FaultFields (s : State) (block : List Byte) : Prop where
  length   : block.length = 37
  result   : byteAt block 0 = 0
  kinds    : ∀ k : FaultKind,
    leNat ((block.drop 1).take 2) / 2 ^ (kindIndex k).val % 2 = (if statusOf s.faults k then 1 else 0) ∧
    byteAt block (4 + (kindIndex k).val) = BitVec.ofNat 8 (countOf s k)
  noKind   : leNat ((block.drop 1).take 2) < 2 ^ 14
  presence : (byteAt block 3).toNat = markBit s.faults.cfgInvalid.isSome 1 + markBit s.faults.cfgItem.isSome 2 +
    markBit s.faults.sigStale.isSome 4 + markBit s.faults.linkOff.isSome 8 + markBit s.faults.storeWrite.isSome 16
  capture  : ∀ c, s.faults.record.capture = some c →
    (byteAt block 18).toNat = (kindIndex c.kind).val ∧ Field block 19 (leBytes 4 c.keyCycle) ∧
    (match c.index with | none => byteAt block 23 = 0xFF | some n => Field block 23 (leBytes 1 n)) ∧
    Field block 24 (leBytes 4 c.elapsed)
  empty    : s.faults.record.capture = none → byteAt block 18 = 0xFF
  counters : Field block 28 (leBytes 2 s.store.unclosed ++ leBytes 2 s.store.torn)
  masks    : Field block 32 (leBytes 2 s.cfg.faultMasks.toNat ++ leBytes 3 s.cfg.dueMasks.toNat)

end Sys2Proof
end

