-- ==== Sys2Proof/Certificates/Slice0/Obligations.lean ====
section
/-! DEFINITION. The statements for the provers. -/

open Sys2Proof Sys2Proof.Machine

/-! ### The machine as a whole -/

/-- A step takes the command at the front of the queue and runs it on the state with the queue's rest; on an empty
queue the part idles (the model's choice: assumption logs 2 and 37). -/
def Obligations.StepTakesFront : Prop :=
  (∀ (c : Instr) (rest : List Instr) (s : State), s.pending = c :: rest → step s = exec c (s.setPending rest)) ∧
  (∀ s : State, s.pending = [] → step s = .next s)

/-- Every command answers a next state in every state, and leaves the queue of waiting commands to `step`. That a
command whose event cannot occur answers the same state is the model's choice (assumption log 1). -/
def Obligations.EveryCommandAnswers : Prop :=
  ∀ (c : Instr) (s : State), ∃ t, exec c s = .next t ∧ t.pending = s.pending

/-- The running configuration is set by a cold start and lost with the supply, and by nothing else; an input level
changes by the command of its line alone. That the operand of that command is the new level is the model's reading
(assumption log 4, DEDUCED), and that the levels are kept over SUPPLY_LOSS its choice (assumption log 12, DESIGN
CHOICE). -/
def Obligations.ConfigurationAndInputsKept : Prop :=
  ∀ (c : Instr) (s t : State), exec c s = .next t →
    (t.cfg = s.cfg ∨ c = .supplyApplied ∨ (∃ cut, c = .supplyLoss cut) ∨
      (∃ cut, c = .reset cut ∧ s.power.ramValid = false)) ∧
    (t.lines.ign = s.lines.ign ∨ ∃ first, c = .ignLineChange t.lines.ign first) ∧
    (t.lines.wake = s.lines.wake ∨ c = .wakeLineActive t.lines.wake) ∧
    (t.lines.warning = s.lines.warning ∨ c = .supplyWarning t.lines.warning)

/-- The store changes only inside the region of the operation in flight: the journal slot under the checkpoint written
to it, four bytes of block 0 under a configuration word write, 256 bytes under a history write, blocks 1 to 4 under a
wipe; and only at the begin of a checkpoint, at a completion, at RESET or at the loss of the supply. When the bytes
change is the model's choice (assumption log 35). -/
def Obligations.StoreChangesOnlyInFlight : Prop :=
  ∀ (c : Instr) (s t : State), StoreSound s → exec c s = .next t →
    (∀ a : Nat, memRead t.nvm a ≠ memRead s.nvm a →
      (∃ (j : Fin 11) (snap : Checkpoint), (s.store.port = some (.checkpoint j snap) ∨
          (c = .checkpointBegin ∧ t.store.port = some (.checkpoint j snap))) ∧
        0x2800 + 4096 * j.val ≤ a ∧ a < 0x2800 + 4096 * j.val + 4096) ∨
      (∃ o bs, s.store.port = some (.configWrite o bs) ∧ 4 * o ≤ a ∧ a < 4 * o + 4) ∨
      (∃ e bs, s.store.port = some (.historyWrite e bs) ∧ 0x800 + 256 * (e.seq % 32) ≤ a ∧
        a < 0x800 + 256 * (e.seq % 32) + 256) ∨
      (s.store.port = some .wipe ∧ 0x800 ≤ a ∧ a < 0x2800)) ∧
    (t.nvm = s.nvm ∨ c = .checkpointBegin ∨ (∃ cut, c = .supplyLoss cut) ∨ (∃ cut, c = .reset cut) ∨
      (∃ d, c = .checkpointCompletion d) ∨ (∃ d r, c = .historyWriteCompletion d r) ∨
      (∃ d, c = .configWriteCompletion d) ∨ (∃ d, c = .wipeCompletion d))

/-- Every change of the power state is one of those Chapter 9 names, by the command that stands for its event. The
state without supply is the model's own (assumption log 12). -/
def Obligations.PowerStateMoves : Prop :=
  ∀ (c : Instr) (s t : State), exec c s = .next t → t.power.state ≠ s.power.state →
    (c = .supplyApplied ∧ t.power.state = .loading) ∨
    ((∃ cut, c = .supplyLoss cut) ∧ t.power.state = .unsupplied) ∨
    ((∃ cut, c = .reset cut) ∧ s.power.state ≠ .unsupplied ∧
      (t.power.state = .loading ∨ t.power.state = .active ∨ t.power.state = .parked)) ∨
    (c = .loadingEnd ∧ s.power.state = .loading ∧ (t.power.state = .active ∨ t.power.state = .parked)) ∨
    (((∃ first, c = .ignLineChange true first) ∨ c = .wakeLineActive true ∨ (∃ u r, c = .countedEdge u r)) ∧
      s.power.state = .parked ∧ t.power.state = .waking) ∨
    (c = .settleTimerExpiry ∧ s.power.state = .waking ∧ t.power.state = .active) ∨
    (c = .quietTimerExpiry ∧ s.power.state = .active ∧ t.power.state = .closing) ∨
    (((∃ f b, c = .frameArrival f b) ∨ (∃ first, c = .ignLineChange true first)) ∧
      s.power.state = .closing ∧ t.power.state = .active) ∨
    ((c = .checkpointBegin ∨ (∃ l, c = .checkpointCompletion l)) ∧ s.power.state = .closing ∧
      (t.power.state = .parked ∨ (t.power.state = .waking ∧ s.lines.wake = true)))

/-! ### Reset and invariants -/

/-- What `State.reset` holds: the part at the begin of LOADING with the supply just applied. The blank store, the low
input lines and the fallback configuration that follows from them are the model's choice (assumption logs 10 and
11). Every invariant below holds there. -/
def Obligations.ResetValues : Prop :=
  State.reset.power.state = .loading ∧ State.reset.power.cause = .none ∧ State.reset.power.ramValid = false ∧
  State.reset.power.pulseWake = none ∧ State.reset.power.quietRunning = false ∧ State.reset.power.keyCycles = 0 ∧
  State.reset.power.keyOpen = false ∧
  State.reset.lines.stby = true ∧ State.reset.lines.due = false ∧ State.reset.lines.fault = false ∧
  State.reset.cfg = RunConfig.fallbackConfig ∧
  State.reset.cap.rx = [] ∧ (∀ i : Fin 27, State.reset.cap.sources[i] = Source.initial) ∧
  BoardFresh State.reset.cfg State.reset.cap.sources State.reset.cap.board ∧ (∀ a, memRead State.reset.nvm a = 0xFF) ∧
  (∀ c : Fin 24, State.reset.chans[c] = { Channel.disabled with state := if c = 0 then .idle else .disabled }) ∧
  State.reset.start = StartUnit.initial ∧ (∀ u : Fin 4, State.reset.spectra[u] = Spectrum.zero) ∧
  State.reset.comps.queue = [] ∧ State.reset.comps.index = [] ∧ State.reset.comps.nextSeq = 0 ∧
  State.reset.faults.cfgInvalid = some (some 43) ∧ countOf State.reset .cfgInvalid = 1 ∧
  State.reset.store.port = none ∧ State.reset.store.normal = false ∧ State.reset.store.urgent = false ∧
  State.reset.store.newest = none ∧ State.reset.store.lastIssued = 0 ∧ State.reset.store.interval = 0 ∧
  State.reset.bus.queue = [] ∧ State.reset.bus.gate = false ∧ State.reset.bus.pointer = 23 ∧
  State.reset.bus.slot = .idle ∧ State.reset.pending = [] ∧
  LinesFollow State.reset ∧ StoreSound State.reset ∧ TransmitSound State.reset ∧ NewestSound State.reset ∧
    FlagsSound State.reset ∧ TalliesSound State.reset ∧ StoppedLinkSound State.reset ∧ QueuesSound State.reset

/-- The output lines are driven from the state after every step: STBY in LOADING and PARKED (R167), FAULT in ACTIVE and
CLOSING while an unmasked kind is set (R173), DUE in ACTIVE while a channel with a clear due mask is due (R176). That
a part without supply asserts no line is the model's choice (assumption log 12). -/
def Obligations.LinesFollowEveryStep : Prop :=
  ∀ s t : State, LinesFollow s → step s = .next t → LinesFollow t

/-- Every step keeps the canonical form of the store's bytes and every store operation inside its region. -/
def Obligations.StoreStaysSound : Prop :=
  ∀ s t : State, StoreSound s → step s = .next t → StoreSound t

/-- Every step keeps the transmit queue bounded and ordered, and offers a frame only where R179 allows it. -/
def Obligations.TransmitStaysSound : Prop :=
  ∀ s t : State, TransmitSound s → step s = .next t → TransmitSound t

/-- Every step keeps the newest valid slot valid with the sequence the index gives: no other valid slot holds a higher
one, no write targets it, and the slot under write holds no valid checkpoint. That a slot whose write failed never
holds a valid record, and so none with a higher sequence, is the model's choice (assumption log 7). -/
def Obligations.NewestStaysSound : Prop :=
  ∀ s t : State, StoreSound s → NewestSound s → step s = .next t → NewestSound t

/-- Every step keeps the due flags, saturated flags and due set marks in line with the counters. -/
def Obligations.FlagsStaySound : Prop :=
  ∀ s t : State, FlagsSound s → step s = .next t → FlagsSound t

/-- Every step keeps the balance of every engine record: in RAM, in the valid slots of the journal and in flight. That
a slot whose write failed or was cut never holds a valid record, balanced or not, is the model's choice (assumption
logs 7 and 8). -/
def Obligations.TalliesStayBalanced : Prop :=
  ∀ s t : State, StoreSound s → TalliesSound s → step s = .next t → TalliesSound t

/-- Every step keeps bus traffic and the receive queue empty while the link controller does not run. That the request
slot's waiting operation is gone in PARKED too, against the table of R150, is the model's choice (assumption log 42). -/
def Obligations.StoppedLinkStaysEmpty : Prop :=
  ∀ s t : State, StoppedLinkSound s → step s = .next t → StoppedLinkSound t

/-- Every step keeps the receive queue within 16 frames and the history write queue within 4 entries. -/
def Obligations.QueuesStayBounded : Prop :=
  ∀ s t : State, QueuesSound s → step s = .next t → QueuesSound t

/-! ### Supply and LOADING -/

/-- SUPPLY_APPLIED begins LOADING with every block at its cold-start values and the configuration from the image:
lines, power control, sources and board, pulse units, channels, start unit, spectrum units out of use, component
records, store controller and bus traffic. What the store gives back is a statement of its own. That the reads, checks
and loads are made at once, a supply applied to a supplied part, the wake cause NONE in LOADING and the link state
before the first link start are the model's choices (assumption logs 31, 34, 11 and 13). -/
def Obligations.SupplyAppliedSetsUp : Prop :=
  ∀ s : State, ∃ t, exec .supplyApplied s = .next t ∧
    t.cfg = (readImage s.nvm).1 ∧
    t.power.state = .loading ∧ t.power.cause = .none ∧ t.power.ramValid = false ∧ t.power.pulseWake = none ∧
    t.power.quietRunning = false ∧ t.power.quietCount = 0 ∧ t.power.keyOpen = false ∧
    t.lines.stby = true ∧ t.lines.due = false ∧ t.lines.fault = false ∧
    t.cap.rx = [] ∧ (∀ i : Fin 27, t.cap.sources[i] = Source.initial) ∧ BoardFresh t.cfg t.cap.sources t.cap.board ∧
    t.pulseA.prescaler = 0 ∧ t.pulseA.running = false ∧ t.pulseA.disagree = 0 ∧
    t.pulseB.prescaler = 0 ∧ t.pulseB.running = false ∧ t.pulseB.disagree = 0 ∧
    (∀ c : Fin 24, t.chans[c].state = (if t.cfg.channels[c].isSome then .idle else .disabled) ∧
      t.chans[c].lastOpen = false ∧ t.chans[c].qualify = 0 ∧ t.chans[c].linger = 0 ∧ t.chans[c].pendTicks = 0 ∧
      t.chans[c].staged = none) ∧
    t.start = StartUnit.initial ∧ t.bus = Bus.initial ∧ t.faults.elapsed = 0 ∧
    (∀ u : Fin 4, t.cfg.spectra[u] = none → t.spectra[u] = Spectrum.zero) ∧
    (∀ i : Fin 12, t.comps.slots[i].candidate = none ∧ t.comps.slots[i].confirm = 0 ∧
      (t.cfg.classes[i] = none → t.comps.slots[i] = Component.zero) ∧
      (t.cfg.classes[i] ≠ none → t.comps.slots[i].state =
        (if t.comps.slots[i].identity ≠ none ∨ t.cfg.identity[i] = none then .present else .unidentified))) ∧
    t.store.port = none ∧ t.store.normal = false ∧ t.store.urgent = false ∧ t.store.orderly = false ∧
    t.store.followUp = false ∧ t.store.interval = 0 ∧ (∀ j : Fin 11, t.store.bad[j] = false) ∧
    t.store.disabled = false ∧ t.store.wipePending = false ∧ t.store.wipeRunning = false ∧
    SameBut [.cfg, .outputs, .power, .cap, .pulseA, .pulseB, .chans, .start, .spectra, .comps, .faults, .store, .bus] s t

/-- An image that is blank, torn or of another format version gives the fallback configuration, with CFG_INVALID
present and raised with index 43, no checkpoint selected, every loaded count 0 and no other fault but STORE_TORN of the
history scan. A valid image gives the running
configuration its items state, each item checked by its rule, and CFG_ITEM raised once for each rejection, degradation
and default that raises it, and for nothing else. The model's readings and choices in it: the checks made at once
(assumption logs 31 and 34), the identity source of an UNUSED slot checked (23), two raises of a slot rejected twice
(39), bits that no field names not read (40), the due basis of C0 in the fallback configuration (41) and a revolution
source field of 3 rejected (45). -/
def Obligations.ImageCheckedOrFallsBack : Prop :=
  (∀ s : State,
    (recordBlank (memSlice s.nvm 0 2048) = true ∨ wordSum (memSlice s.nvm 0 2048) % 65536 ≠ 0 ∨
      leNat ((memSlice s.nvm 0 2048).take 2) ≠ 1) →
    ∃ t, exec .supplyApplied s = .next t ∧ t.cfg = RunConfig.fallbackConfig ∧
      t.faults.cfgInvalid = some (some 43) ∧ statusOf t.faults .cfgInvalid = true ∧ countOf t .cfgInvalid = 1 ∧
      (∀ k : FaultKind, k ≠ .cfgInvalid → k ≠ .storeTorn → statusOf t.faults k = false ∧ countOf t k = 0) ∧
      countOf t .storeTorn = ((List.range 32).filter fun p => decide (historyAt s.nvm p = .torn)).length ∧
      (statusOf t.faults .storeTorn = true ↔ ∃ p, p < 32 ∧ historyAt s.nvm p = .torn) ∧
      t.faults.record.capture = some { kind := .cfgInvalid, keyCycle := 0, index := some 43, elapsed := 0 } ∧
      t.store.newest = none ∧ t.store.lastIssued = 0 ∧ t.power.keyCycles = 0 ∧ t.pulseA.lifetime = 0 ∧
      t.pulseB.lifetime = 0 ∧ (∀ c : Fin 24, t.chans[c].hours = 0 ∧ t.chans[c].wear = 0 ∧ t.chans[c].episodes = 0) ∧
      (∀ u : Fin 4, t.spectra[u] = Spectrum.zero) ∧ t.nvm = s.nvm) ∧
  (∀ s : State, recordBlank (memSlice s.nvm 0 2048) = false → wordSum (memSlice s.nvm 0 2048) % 65536 = 0 →
    leNat ((memSlice s.nvm 0 2048).take 2) = 1 →
    ∃ (t : State) (items : List Nat), exec .supplyApplied s = .next t ∧ ImageChecked (memRead s.nvm) t.cfg items ∧
      t.faults.cfgInvalid = none ∧
      (∀ n, t.faults.cfgItem = some (some n) ↔ n ∈ items ∧ ∀ m ∈ items, n ≤ m) ∧ (items = [] → t.faults.cfgItem = none) ∧
      (selectCheckpoint s.nvm = none → countOf t .cfgItem = min 255 items.length) ∧
      (∀ j k, selectCheckpoint s.nvm = some (j, k) →
        countOf t .cfgItem = min 255 (k.faults.counts[kindIndex .cfgItem] + items.length)) ∧
      (items ≠ [] → statusOf t.faults .cfgItem = true))

/-- A journal slot is blank, valid or torn by its 4,096 bytes, and the selected checkpoint is the valid slot with the
highest journal sequence, the lowest slot number among equals; none is selected exactly when no slot is valid. Where
the sequence stands in a slot is the model's choice (assumption log 9). -/
def Obligations.SelectedCheckpointIsNewest : Prop :=
  ∀ m : List Host.Cell,
    (∀ j : Fin 11,
      (slotAt m j = .blank ↔ ∀ k, k < 4096 → memRead m (0x2800 + 4096 * j.val + k) = 0xFF) ∧
      (∀ seq : Nat, slotAt m j = .valid seq ↔ slotAt m j ≠ .blank ∧ 1 ≤ seq ∧
        wordSum (memSlice m (0x2800 + 4096 * j.val) 4096) % 65536 = 0 ∧ (checkpointAt m j).seq = seq)) ∧
    (∀ (j : Fin 11) (c : Checkpoint), selectCheckpoint m = some (j, c) ↔
      ∃ seq, slotAt m j = .valid seq ∧ c = checkpointAt m j ∧ c.seq = seq ∧
        ∀ (k : Fin 11) (d : Nat), slotAt m k = .valid d → d < seq ∨ (d = seq ∧ j ≤ k)) ∧
    (selectCheckpoint m = none ↔ ∀ (k : Fin 11) (d : Nat), slotAt m k ≠ .valid d)

/-- What LOADING takes from the store under a stored image. From the selected checkpoint: the part counters, with torn
slots and STORE_TORN when its successor is torn, unclosed cycles and UNCLOSED when it is not orderly, the lifetime
revolutions and the journal index; under its own layout the channels, spectrum units and component records with the
open attempt settled, under another the layout closes to be made, each with the channel list and the tallies of the
checkpoint's record, its open attempt unresolved. The fault record with it, LOADING's raises on top; the order in
which several torn positions and items are found is the model's choice (assumption log 15). With none selected, zeros,
and torn slots 1 when a slot is not blank. In every case the history scan and the reconciliation of the history write
queue. That the loads are made at once, also for a supplied part, that the layout closes are built here and left for
LAYOUT_CHANGE_CLOSE to make, and that the next sequence stays at its maximum once there are the model's choices
(assumption logs 31, 34, 30 and 27). -/
def Obligations.StoredRecordsLoaded : Prop :=
  (∀ (s : State) (j : Fin 11) (k : Checkpoint),
    (readImage s.nvm).1.fallback = false → selectCheckpoint s.nvm = some (j, k) →
    ∃ t, exec .supplyApplied s = .next t ∧
      t.store.newest = some j ∧ t.store.newestSeq = k.seq ∧ t.store.lastIssued = k.seq ∧
      t.power.keyCycles = k.keyCycles ∧ t.pulseA.lifetime = k.lifetimeA ∧ t.pulseB.lifetime = k.lifetimeB ∧
      t.store.unclosed = (if k.orderly then k.unclosed else min 65535 (k.unclosed + 1)) ∧
      t.store.torn = (if slotAt s.nvm (j + 1) = .torn then min 65535 (k.torn + 1) else k.torn) ∧
      (∀ x : FaultKind, x ≠ .storeTorn → x ≠ .unclosed → x ≠ .cfgItem →
        statusOf t.faults x = k.faults.status[kindIndex x] ∧ countOf t x = k.faults.counts[kindIndex x]) ∧
      (statusOf t.faults .unclosed = true ↔ k.faults.status[kindIndex .unclosed] = true ∨ k.orderly = false) ∧
      (statusOf t.faults .storeTorn = true ↔ k.faults.status[kindIndex .storeTorn] = true ∨
        slotAt s.nvm (j + 1) = .torn ∨ ∃ p, p < 32 ∧ historyAt s.nvm p = .torn) ∧
      (statusOf t.faults .cfgItem = true ↔ k.faults.status[kindIndex .cfgItem] = true ∨ t.faults.cfgItem ≠ none) ∧
      countOf t .unclosed = min 255 (k.faults.counts[kindIndex .unclosed] + (if k.orderly then 0 else 1)) ∧
      countOf t .storeTorn = min 255 (k.faults.counts[kindIndex .storeTorn] +
        (if slotAt s.nvm (j + 1) = .torn then 1 else 0) +
        ((List.range 32).filter fun p => decide (historyAt s.nvm p = .torn)).length) ∧
      (∀ x, k.faults.capture = some x → t.faults.record.capture = some x) ∧
      (k.faults.capture = none → slotAt s.nvm (j + 1) = .torn → t.faults.record.capture =
        some { kind := .storeTorn, keyCycle := k.keyCycles, index := some (32 + (j + 1).val), elapsed := 0 }) ∧
      (k.faults.capture = none → slotAt s.nvm (j + 1) ≠ .torn → k.orderly = false → t.faults.record.capture =
        some { kind := .unclosed, keyCycle := k.keyCycles, index := some (32 + j.val), elapsed := 0 }) ∧
      (k.faults.capture = none → slotAt s.nvm (j + 1) ≠ .torn → k.orderly = true →
        (∀ n items, (readImage s.nvm).2 = n :: items → t.faults.record.capture =
          some { kind := .cfgItem, keyCycle := k.keyCycles, index := some n, elapsed := 0 }) ∧
        ((readImage s.nvm).2 = [] →
          (∀ p, p < 32 → historyAt s.nvm p = .torn → (∀ q, q < p → historyAt s.nvm q ≠ .torn) →
            t.faults.record.capture =
              some { kind := .storeTorn, keyCycle := k.keyCycles, index := some p, elapsed := 0 }) ∧
          ((∀ p, p < 32 → historyAt s.nvm p ≠ .torn) → t.faults.record.capture = none))) ∧
      (k.layout = t.cfg.layout → t.comps.layoutLeft = [] ∧
        (∀ c : Fin 24, t.cfg.channels[c].isSome = true →
          t.chans[c].hours = k.channels[c].hours ∧ t.chans[c].hourPre = k.channels[c].hourPre ∧
          t.chans[c].estHours = k.channels[c].estHours ∧ t.chans[c].estPre = k.channels[c].estPre ∧
          t.chans[c].wear = k.channels[c].wear ∧ t.chans[c].wearAcc = k.channels[c].wearAcc ∧
          t.chans[c].episodes = k.channels[c].episodes ∧ t.chans[c].revs = k.channels[c].revs ∧
          t.chans[c].clip = k.channels[c].clip ∧ t.chans[c].satReported = k.channels[c].satReported) ∧
        (∀ u : Fin 4, t.cfg.spectra[u].isSome = true → t.spectra[u] = k.spectra[u]) ∧
        (∀ i : Fin 12, t.cfg.classes[i].isSome = true →
          t.comps.slots[i].identity = k.components[i].identity ∧
          t.comps.slots[i].generation = k.components[i].generation ∧
          t.comps.slots[i].install = k.components[i].install) ∧
        (∀ (sc : StartCfg) (x : EngineTallies), t.cfg.start = some sc →
          k.components[sc.engine].tallies = .engine x → t.comps.slots[sc.engine].tallies =
            .engine (if k.openAttempt = some sc.engine then
              { x with unresolved := min max32 (x.unresolved + if x.openMark then 1 else 0), openMark := false }
            else x)) ∧
        (∀ (sc : StartCfg) (i : Fin 12) (x : StarterTallies), t.cfg.start = some sc → sc.starter = some i →
          k.components[i].tallies = .starter x → t.comps.slots[i].tallies = .starter x)) ∧
      (k.layout ≠ t.cfg.layout →
        (∀ c : Fin 24, t.chans[c].hours = 0 ∧ t.chans[c].wear = 0 ∧ t.chans[c].episodes = 0) ∧
        (∀ u : Fin 4, t.spectra[u] = Spectrum.zero) ∧
        (∀ i : Fin 12, t.cfg.classes[i].isSome = true →
          t.comps.slots[i].identity = none ∧ t.comps.slots[i].generation = 0 ∧
          t.comps.slots[i].install = k.keyCycles) ∧
        t.comps.layoutLeft.map (·.slot) =
          (List.finRange 12).filter (fun (i : Fin 12) => k.components[i].cls.isSome) ∧
        (∀ e ∈ t.comps.layoutLeft, k.components[e.slot].cls = some e.cls ∧
          e.identity = k.components[e.slot].identity ∧ e.generation = k.components[e.slot].generation ∧
          e.install = k.components[e.slot].install ∧ e.closeKey = k.keyCycles ∧ e.reason = .layoutChange ∧
          (k.components[e.slot].bound = [] → e.chans = [noChan]) ∧
          (k.components[e.slot].bound ≠ [] → e.chans = k.components[e.slot].bound.map fun c =>
            { number := some c, hours := k.channels[c].hours, estHours := k.channels[c].estHours,
              wear := k.channels[c].wear, episodes := k.channels[c].episodes, revs := k.channels[c].revs }) ∧
          (k.components[e.slot].tallies = .none → e.tallies = .none) ∧
          (∀ x, k.components[e.slot].tallies = .starter x → e.tallies = .starter x) ∧
          (∀ x, k.components[e.slot].tallies = .engine x → e.tallies = .engine
            { x with unresolved := min max32 (x.unresolved + if x.openMark then 1 else 0), openMark := false })))) ∧
  (∀ s : State, (readImage s.nvm).1.fallback = false → selectCheckpoint s.nvm = none →
    ∃ t, exec .supplyApplied s = .next t ∧
      t.store.newest = none ∧ t.store.lastIssued = 0 ∧ t.power.keyCycles = 0 ∧ t.store.unclosed = 0 ∧
      t.pulseA.lifetime = 0 ∧ t.pulseB.lifetime = 0 ∧ t.comps.layoutLeft = [] ∧
      (∀ x : FaultKind, x ≠ .storeTorn → x ≠ .cfgItem → statusOf t.faults x = false ∧ countOf t x = 0) ∧
      countOf t .storeTorn = (if ∃ j : Fin 11, slotAt s.nvm j ≠ .blank then 1 else 0) +
        ((List.range 32).filter fun p => decide (historyAt s.nvm p = .torn)).length ∧
      (statusOf t.faults .cfgItem = true ↔ t.faults.cfgItem ≠ none) ∧
      ((∀ j : Fin 11, slotAt s.nvm j = .blank) → t.store.torn = 0) ∧
      (∀ j : Fin 11, slotAt s.nvm j ≠ .blank → (∀ i : Fin 11, i < j → slotAt s.nvm i = .blank) →
        t.store.torn = 1 ∧ statusOf t.faults .storeTorn = true ∧ t.faults.record.capture =
          some { kind := .storeTorn, keyCycle := 0, index := some (32 + j.val), elapsed := 0 }) ∧
      (∀ u : Fin 4, t.spectra[u] = Spectrum.zero) ∧
      (∀ i : Fin 12, t.cfg.classes[i].isSome = true → t.comps.slots[i].identity = none ∧
        t.comps.slots[i].generation = 0 ∧ t.comps.slots[i].install = 0)) ∧
  (∀ (s : State) (held : Nat) (queue : List HistEntry),
    ((((readImage s.nvm).1.fallback = true ∨ selectCheckpoint s.nvm = none) ∧ held = 0 ∧ queue = []) ∨
      ∃ j k, (readImage s.nvm).1.fallback = false ∧ selectCheckpoint s.nvm = some (j, k) ∧ held = k.nextSeq ∧
        queue = k.queue) →
    ∃ t, exec .supplyApplied s = .next t ∧
      (∀ p seq : Nat, (p, seq) ∈ t.comps.index ↔ p < 32 ∧ historyAt s.nvm p = .valid seq) ∧
      t.comps.index.Pairwise (fun x y => x.2 < y.2) ∧
      (∀ p, p < 32 → historyAt s.nvm p = .torn → statusOf t.faults .storeTorn = true) ∧
      (t.comps.index = [] → t.comps.nextSeq = held) ∧
      (∀ x : Nat × Nat, t.comps.index.getLast? = some x → t.comps.nextSeq = max (min max32 (x.2 + 1)) held) ∧
      t.comps.queue = queue.filter (fun e => decide (∀ x ∈ t.comps.index,
        x.2 ≠ e.seq ∧ (x.1 = e.seq % 32 → x.2 ≤ e.seq))))

/-- The loss of the supply loses RAM and cuts the operation in flight; what survives is what the store holds. A cut
checkpoint leaves its slot without a valid checkpoint and a cut history write its position torn, and every byte outside
the region of the operation is kept (assumption logs 7 and 8). The state without supply, the values RAM then has, the
released output lines and the kept input levels are the model's choice (assumption log 12). -/
def Obligations.SupplyLossCuts : Prop :=
  ∀ (s : State) (cut : Deviation), s.power.state ≠ .unsupplied → StoreSound s →
    ∃ t, exec (.supplyLoss cut) s = .next t ∧
      t.power.state = .unsupplied ∧ t.power.ramValid = false ∧ t.power.keyCycles = 0 ∧ t.cap.rx = [] ∧
      t.bus = Bus.initial ∧ t.store = StoreCtl.initial ∧ t.start = StartUnit.initial ∧
      (∀ c : Fin 24, t.chans[c] = Channel.disabled) ∧ t.comps.queue = [] ∧
      t.lines.stby = false ∧ t.lines.due = false ∧ t.lines.fault = false ∧
      (s.store.port = none → t.nvm = s.nvm) ∧
      (∀ j snap, s.store.port = some (.checkpoint j snap) → (∀ seq, slotAt t.nvm j ≠ .valid seq) ∧
        ∀ a, a < 0x2800 + 4096 * j.val ∨ 0x2800 + 4096 * j.val + 4096 ≤ a → memRead t.nvm a = memRead s.nvm a) ∧
      (∀ e bs, s.store.port = some (.historyWrite e bs) → historyAt t.nvm (e.seq % 32) = .torn ∧
        ∀ a, a < 0x800 + 256 * (e.seq % 32) ∨ 0x800 + 256 * (e.seq % 32) + 256 ≤ a →
          memRead t.nvm a = memRead s.nvm a) ∧
      Block.inputs.same s t ∧ Block.pending.same s t

/-- RESET with the RAM-valid marker set is a warm restart: ACTIVE with the cause of the wake condition, IGN first, or
PARKED with the cause kept. Counts, flags, configuration, history queue, bad marks, pulse counts and the fault record
are kept, the episodes end (R76), and an attempt left open ends as unresolved with the unit OFF (R90). Every source is
UNKNOWN with value 0 and its timers stopped, its presence record kept, but for the IGN source, FRESH in ACTIVE, and
the board follows (R14, R21). The key-cycle-open flag is kept for ACTIVE, where IGN high opens a cycle if none is open
and IGN low ends it, and cleared for PARKED (R153, R157, R165); the quiet timer runs from 0 in ACTIVE and stands at 0
in PARKED, and the pulse wake mark is clear (R153, R157, R159). With the marker clear LOADING begins again. What a cut
operation leaves is an operand (assumption logs 7 and 8), and the stall timer's count that stays is the model's choice
(assumption log 22). -/
def Obligations.ResetRestarts : Prop :=
  ∀ (s : State) (cut : Deviation), s.power.state ≠ .unsupplied →
    (s.power.ramValid = true → ∃ t, exec (.reset cut) s = .next t ∧
      (s.lines.ign = true → t.power.state = .active ∧ t.power.cause = .ign ∧ t.store.normal = true) ∧
      (s.lines.ign = false → s.lines.wake = true →
        t.power.state = .active ∧ t.power.cause = .bus ∧ t.store.normal = true) ∧
      (s.lines.ign = false → s.lines.wake = false →
        t.power.state = .parked ∧ t.power.cause = s.power.cause ∧ t.power.keyCycles = s.power.keyCycles ∧
          t.bus.queue = [] ∧ t.bus.keyList = [] ∧ t.lines.stby = true ∧ t.store.urgent = s.store.urgent ∧
          ((∀ j snap, s.store.port ≠ some (.checkpoint j snap)) → t.store.normal = s.store.normal)) ∧
      t.power.ramValid = true ∧ t.cap.rx = [] ∧ t.bus.slot = .idle ∧ t.bus.gate = false ∧ t.faults.linkOff = none ∧
      t.power.pulseWake = none ∧ t.power.settle = false ∧ t.power.quietCount = 0 ∧
      (t.power.quietRunning = true ↔ t.power.state = .active) ∧
      (∀ i : Fin 27, t.cap.sources[i] = { s.cap.sources[i] with
        state := if i = 26 ∧ t.power.state = .active ∧ s.cfg.ignPrio ≠ none then .fresh else .unknown
        value := if i = 26 ∧ t.power.state = .active ∧ s.cfg.ignPrio ≠ none ∧ s.lines.ign = true then 2 else 0
        timeout := none, hold := none }) ∧
      BoardFresh s.cfg t.cap.sources t.cap.board ∧
      (t.power.state = .parked → t.power.keyOpen = false) ∧
      (t.power.state = .active →
        (s.cfg.ignPrio ≠ none → s.lines.ign = true → s.power.keyOpen = false →
          t.power.keyOpen = true ∧ t.power.keyCycles = min max32 (s.power.keyCycles + 1) ∧
          t.bus.queue.length = min 6 (dueList t).length ∧ t.bus.keyList = (dueList t).drop 6) ∧
        (s.cfg.ignPrio ≠ none → s.lines.ign = false → t.power.keyOpen = false) ∧
        (s.cfg.ignPrio = none ∨ (s.lines.ign = true ∧ s.power.keyOpen = true) → t.power.keyOpen = s.power.keyOpen) ∧
        (s.cfg.ignPrio = none ∨ s.lines.ign = false ∨ s.power.keyOpen = true →
          t.power.keyCycles = s.power.keyCycles ∧ t.bus.queue = [] ∧ t.bus.keyList = []) ∧
        t.bus.link = .active ∧ t.lines.stby = false ∧ t.store.urgent = (s.store.urgent || s.lines.warning)) ∧
      t.bus.burst = [] ∧ t.bus.summaryCount = 0 ∧ t.bus.statusCount = 0 ∧
      t.store.port = none ∧ t.store.orderly = false ∧ t.store.followUp = false ∧
      (∀ j snap, s.store.port = some (.checkpoint j snap) → t.store.normal = true) ∧
      (s.store.port = some .wipe → t.store.wipePending = true ∧ t.store.wipeRunning = false) ∧
      (s.store.port ≠ some .wipe → t.store.wipePending = s.store.wipePending) ∧
      t.store.bad = s.store.bad ∧ t.store.disabled = s.store.disabled ∧ t.store.newest = s.store.newest ∧
      t.store.newestSeq = s.store.newestSeq ∧ t.store.lastIssued = s.store.lastIssued ∧
      t.store.interval = s.store.interval ∧ t.store.unclosed = s.store.unclosed ∧ t.store.torn = s.store.torn ∧
      t.comps.queue = s.comps.queue ∧ t.comps.nextSeq = s.comps.nextSeq ∧
      t.pulseA.prescaler = s.pulseA.prescaler ∧ t.pulseA.lifetime = s.pulseA.lifetime ∧
      t.pulseB.prescaler = s.pulseB.prescaler ∧ t.pulseB.lifetime = s.pulseB.lifetime ∧
      t.pulseA.running = (if t.power.state = .active then pulseInUse s.cfg.pulseA else false) ∧
      t.pulseB.running = (if t.power.state = .active then pulseInUse s.cfg.pulseB else false) ∧
      t.pulseA.windowTicks = 0 ∧ t.pulseA.windowEdges = 0 ∧ t.pulseB.windowTicks = 0 ∧ t.pulseB.windowEdges = 0 ∧
      t.pulseA.disagree = 0 ∧ t.pulseB.disagree = 0 ∧
      (∀ c : Fin 24, t.chans[c].hours = s.chans[c].hours ∧ t.chans[c].hourPre = s.chans[c].hourPre ∧
        t.chans[c].estHours = s.chans[c].estHours ∧ t.chans[c].estPre = s.chans[c].estPre ∧
        t.chans[c].wear = s.chans[c].wear ∧ t.chans[c].wearAcc = s.chans[c].wearAcc ∧
        t.chans[c].episodes = s.chans[c].episodes ∧ t.chans[c].revs = s.chans[c].revs ∧
        t.chans[c].clip = s.chans[c].clip ∧ t.chans[c].due = s.chans[c].due ∧
        t.chans[c].saturated = s.chans[c].saturated ∧ t.chans[c].satReported = s.chans[c].satReported ∧
        t.chans[c].staged = s.chans[c].staged ∧
        (s.chans[c].state ≠ .disabled → t.chans[c].state = .idle ∧ t.chans[c].lastOpen = false ∧
          t.chans[c].qualify = 0 ∧ t.chans[c].linger = 0 ∧ t.chans[c].pendTicks = 0 ∧ t.chans[c].pendWeight = 0 ∧
          t.chans[c].pendEst = 0 ∧ t.chans[c].pendRevs = 0)) ∧
      AttemptEnded s t ∧ (t.power.state = .active → s.cfg.start ≠ none → t.start.lastCrank = false) ∧
      t.faults.record = s.faults.record ∧ t.faults.dueSet = s.faults.dueSet ∧
      t.faults.cfgInvalid = s.faults.cfgInvalid ∧ t.faults.cfgItem = s.faults.cfgItem ∧
      t.faults.storeWrite = s.faults.storeWrite ∧ t.faults.sigStale = none ∧
      (t.power.state = .active → t.faults.elapsed = 0) ∧
      (t.power.state = .parked → t.faults.elapsed = s.faults.elapsed) ∧
      SameBut [.outputs, .power, .cap, .pulseA, .pulseB, .chans, .start, .comps, .faults, .store, .nvm, .bus] s t) ∧
    (s.power.ramValid = false → ∃ t, exec (.reset cut) s = .next t ∧
      exec .supplyApplied (cutOperation cut s) = .next t ∧ t.power.state = .loading)

/-- LOADING's own commands. LAYOUT_CHANGE_CLOSE gives the next close its sequence, queues its entry and raises a
normal request, or drops it without an entry when no sequence is left. LOADING_END sets the RAM-valid marker and takes
the first wake condition of IGN, WAKE and the pulse wake mark for the whole ACTIVE entry of R159 with the key-cycle-open
flag clear before it, or parks. One close a command is the model's choice
(assumption log 30). -/
def Obligations.LoadingClosesAndEnds : Prop :=
  (∀ (s : State) (e : HistEntry) (rest : List HistEntry), s.power.state = .loading → s.comps.layoutLeft = e :: rest →
    s.comps.queue.length < 4 → s.comps.nextSeq < max32 →
    ∃ t, exec .layoutChangeClose s = .next t ∧
      t.comps.queue = s.comps.queue ++ [{ e with seq := s.comps.nextSeq }] ∧
      t.comps.nextSeq = s.comps.nextSeq + 1 ∧ t.comps.layoutLeft = rest ∧ t.comps.slots = s.comps.slots ∧
      t.comps.index = s.comps.index ∧ t.store = { s.store with normal := true } ∧
      SameBut [.outputs, .comps, .store] s t) ∧
  (∀ (s : State) (e : HistEntry) (rest : List HistEntry), s.power.state = .loading → s.comps.layoutLeft = e :: rest →
    s.comps.nextSeq = max32 →
    ∃ t, exec .layoutChangeClose s = .next t ∧ t.comps = { s.comps with layoutLeft := rest } ∧
      SameBut [.outputs, .comps] s t) ∧
  (∀ s : State, s.power.state = .loading → s.comps.layoutLeft = [] → s.comps.queue = [] → s.store.port = none →
    ∃ t, exec .loadingEnd s = .next t ∧ t.power.ramValid = true ∧
      (s.lines.ign = true → t.power.state = .active ∧ t.power.cause = .ign) ∧
      (s.lines.ign = false → s.lines.wake = true → t.power.state = .active ∧ t.power.cause = .bus) ∧
      (s.lines.ign = false → s.lines.wake = false → s.power.pulseWake = some .a →
        t.power.state = .active ∧ t.power.cause = .pulseA) ∧
      (s.lines.ign = false → s.lines.wake = false → s.power.pulseWake = some .b →
        t.power.state = .active ∧ t.power.cause = .pulseB) ∧
      (s.lines.ign = false → s.lines.wake = false → s.power.pulseWake = none →
        t.power.state = .parked ∧ t.power.cause = .none ∧ t.power.keyOpen = false ∧
          t.power.keyCycles = s.power.keyCycles ∧ t.power.quietRunning = false ∧ t.power.quietCount = 0 ∧
          t.power.pulseWake = none ∧ t.lines.stby = true ∧ t.store = s.store) ∧
      (s.lines.ign = true ∨ s.lines.wake = true ∨ s.power.pulseWake ≠ none →
        ActiveEntered (s.setPower { s.power with keyOpen := false }) t ∧
        SameBut [.outputs, .power, .cap, .pulseA, .pulseB, .start, .comps, .faults, .store, .bus] s t) ∧
      SameBut [.outputs, .power, .cap, .pulseA, .pulseB, .chans, .start, .comps, .faults, .store, .bus] s t)

/-! ### Lines, timers and power -/

/-- IGN_LINE_CHANGE to a level the line does not have: a wake with cause IGN in PARKED when it rises; in ACTIVE and
CLOSING the IGN source, where the part has one, becomes FRESH with RUN or OFF, a rise restarts the quiet timer and
abandons CLOSING with the follow-up of R135; in LOADING, WAKING and without supply the level alone. The operands and
the level it already has are the model's choices (assumption logs 4 and 6). KEY_STATE follows the source at once, and
what follows from its change: the start unit's turn, evaluated once at an ACTIVE entry (R94), the key cycle and
SIG_STALE. -/
def Obligations.IgnLineTaken : Prop :=
  ∀ (s : State) (high first : Bool), s.lines.ign ≠ high →
    ∃ t, exec (.ignLineChange high first) s = .next t ∧ t.lines.ign = high ∧
      (s.power.state = .parked → high = true → t.power.state = .waking ∧ t.power.cause = .ign ∧ t.power.settle = true ∧
        t.lines.stby = false ∧ BoardFresh s.cfg t.cap.sources t.cap.board ∧
        ∀ i : Fin 27, t.cap.sources[i].state = .unknown ∧ t.cap.sources[i].value = 0) ∧
      (s.power.state = .active → t.power.state = .active ∧ (high = true → t.power.quietCount = 0) ∧
        (high = false → t.power.quietCount = s.power.quietCount)) ∧
      (s.power.state = .closing → high = true → ReturnsToActive s t ∧ t.bus.gate = false ∧
        t.bus.summaryCount = 0 ∧ t.bus.statusCount = 0) ∧
      (s.power.state = .closing → high = false → t.power.state = .closing) ∧
      ((s.power.state = .active ∨ s.power.state = .closing) → s.cfg.ignPrio.isSome = true → IgnTaken s t) ∧
      ((s.power.state = .active ∨ s.power.state = .closing) → s.cfg.ignPrio = none → t.cap = s.cap) ∧
      (s.power.state = .active ∨ (s.power.state = .closing ∧ high = false) → StartFollows s t) ∧
      (s.power.state = .active ∨ (s.power.state = .closing ∧ high = false) → t.store = s.store) ∧
      ((s.power.state = .loading ∨ s.power.state = .waking ∨ s.power.state = .unsupplied ∨
        (s.power.state = .parked ∧ high = false)) → SameBut [.inputs, .outputs] s t) ∧
      SameBut [.inputs, .outputs, .power, .cap, .pulseA, .pulseB, .chans, .start, .comps, .faults, .store, .bus] s t

/-- WAKE_LINE_ACTIVE going active wakes a PARKED part with cause BUS and does nothing else anywhere; SUPPLY_WARNING
turning active raises an urgent request in WAKING and ACTIVE, with the orderly mark in CLOSING, and none in LOADING
and PARKED; turning inactive it raises none. The operands are the model's choice (assumption log 4). -/
def Obligations.WakeAndWarningTaken : Prop :=
  (∀ (s : State) (active : Bool), s.lines.wake ≠ active →
    ∃ t, exec (.wakeLineActive active) s = .next t ∧ t.lines.wake = active ∧
      (s.power.state = .parked → active = true →
        t.power.state = .waking ∧ t.power.cause = .bus ∧ t.power.settle = true ∧ t.lines.stby = false) ∧
      (s.power.state ≠ .parked ∨ active = false → SameBut [.inputs, .outputs] s t) ∧
      SameBut [.inputs, .outputs, .power, .cap, .chans, .faults, .bus] s t) ∧
  (∀ (s : State) (active : Bool), s.lines.warning ≠ active →
    ∃ t, exec (.supplyWarning active) s = .next t ∧ t.lines.warning = active ∧
      (active = true → s.power.state = .waking ∨ s.power.state = .active →
        t.store = { s.store with urgent := true }) ∧
      (active = true → s.power.state = .closing → t.store = { s.store with urgent := true, orderly := true }) ∧
      (active = false ∨ s.power.state = .loading ∨ s.power.state = .parked → t.store = s.store) ∧
      SameBut [.inputs, .outputs, .store] s t)

/-- SETTLE_TIMER_EXPIRY in WAKING is the ACTIVE entry of R159: quiet timer running from 0, link controller started,
gate shut, disagreement counts 0, a new window in each unit in use, elapsed ticks 0, the IGN source FRESH with KEY_STATE
and what follows from its change, and crank indication evaluated once (R94). -/
def Obligations.SettleEntersActive : Prop :=
  ∀ s : State, s.power.state = .waking → s.power.settle = true →
    ∃ t, exec .settleTimerExpiry s = .next t ∧
      ActiveEntered s t ∧ t.power.cause = s.power.cause ∧ t.power.ramValid = s.power.ramValid ∧
      SameBut [.outputs, .power, .cap, .pulseA, .pulseB, .start, .comps, .faults, .store, .bus] s t

/-- QUIET_TIMER_EXPIRY: with the closing condition the part enters CLOSING, which ends the key cycle, asks for an
orderly checkpoint, ends the episodes and an open attempt as unresolved (R90) and abandons the windows; without it the
timer counts on from 0. The closing condition reads the IGN-used flag itself (assumption log 33), and the stall
timer's count stays (assumption log 22). -/
def Obligations.QuietTimerCloses : Prop :=
  ∀ s : State, s.power.state = .active → s.power.quietRunning = true → s.cfg.quiet ≤ s.power.quietCount →
    ∃ t, exec .quietTimerExpiry s = .next t ∧
      ((s.cfg.ignUsed = true ∧ s.lines.ign = false) ∨
          (s.cfg.ignUsed = false ∧
            ¬ (usable s.cap.board[sKeyState].state = true ∧ s.cap.board[sKeyState].value = 2)) →
        t.power.state = .closing ∧ t.power.quietRunning = false ∧ t.power.quietCount = 0 ∧ t.power.keyOpen = false ∧
        t.power.cause = s.power.cause ∧ t.power.keyCycles = s.power.keyCycles ∧
        t.store = { s.store with urgent := true, orderly := true } ∧ t.lines.due = false ∧
        (∀ c : Fin 24, t.chans[c] = endEpisode s.chans[c]) ∧ AttemptEnded s t ∧
        t.start.lastCrank = s.start.lastCrank ∧
        t.pulseA = { s.pulseA with running := false, windowTicks := 0, windowEdges := 0 } ∧
        t.pulseB = { s.pulseB with running := false, windowTicks := 0, windowEdges := 0 } ∧
        SameBut [.outputs, .power, .pulseA, .pulseB, .chans, .start, .comps, .store] s t) ∧
      ((s.cfg.ignUsed = true ∧ s.lines.ign = true) ∨
          (s.cfg.ignUsed = false ∧ usable s.cap.board[sKeyState].state = true ∧ s.cap.board[sKeyState].value = 2) →
        t.power = { s.power with quietCount := 0 } ∧ SameBut [.outputs, .power] s t)

/-! ### Signal capture -/

/-- FRAME_ARRIVAL while the link controller receives: the frame joins the receive queue, or finds 16 frames there and
is discarded with one RX_OVERRUN. In ACTIVE the quiet timer restarts, and a shut gate opens with both timers at 0 and
a STATUS frame queued (R181, R184). CLOSING is abandoned for ACTIVE with the follow-up of R135, the IGN source FRESH
and crank indication evaluated once (R94); the gate is then open with its STATUS frame, unless bus traffic took the
report first. The second operand says which report comes first (assumption log 6), the STATUS frame joins before the
head is offered (assumption log 38), and RX_OVERRUN is raised before the report (assumption log 15). -/
def Obligations.FrameArrivalReceived : Prop :=
  ∀ (s : State) (f : Frame) (busFirst : Bool), (s.power.state = .active ∨ s.power.state = .closing) →
    s.bus.link ≠ .off → s.faults.linkOff = none →
    ∃ t, exec (.frameArrival f busFirst) s = .next t ∧ t.power.state = .active ∧ t.power.quietCount = 0 ∧
      (s.cap.rx.length < 16 → t.cap.rx = s.cap.rx ++ [f]) ∧
      (16 ≤ s.cap.rx.length → t.cap.rx = s.cap.rx ∧ countOf t .rxOverrun = min 255 (countOf s .rxOverrun + 1) ∧
        statusOf t.faults .rxOverrun = true ∧
        (s.faults.record.capture = none → t.faults.record.capture = some (captureOf s .rxOverrun none))) ∧
      (s.cap.rx.length < 16 → countOf t .rxOverrun = countOf s .rxOverrun) ∧
      (s.power.state = .active → t.bus.gate = true ∧
        (s.bus.gate = false → t.bus.summaryCount = 0 ∧ t.bus.statusCount = 0) ∧
        (s.bus.gate = false → s.cap.rx.length < 16 → s.bus.queue.length < 8 →
          t.bus.queue.length = s.bus.queue.length + 1 ∧ statusNow t ∈ t.bus.queue ∧ t.faults = s.faults) ∧
        (s.bus.gate = true → s.cap.rx.length < 16 → t.bus = s.bus ∧ t.faults = s.faults) ∧
        t.cap.sources = s.cap.sources ∧ t.cap.board = s.cap.board ∧
        SameBut [.outputs, .power, .cap, .faults, .bus] s t) ∧
      (s.power.state = .closing → ReturnsToActive s t ∧
        (s.cfg.ignPrio.isSome = true → IgnTaken s t) ∧
        (s.cfg.ignPrio = none → t.cap.sources = s.cap.sources ∧ t.cap.board = s.cap.board) ∧
        t.bus.summaryCount = 0 ∧ t.bus.statusCount = 0 ∧
        (busFirst = false → t.bus.gate = true ∧ (s.bus.queue.length < 7 → statusNow t ∈ t.bus.queue)) ∧
        (busFirst = true → t.bus.gate = false ∧
          (s.bus.gate = false → s.cap.rx.length < 16 → s.bus.queue.length < 8 → statusNow s ∈ t.bus.queue))) ∧
      SameBut [.outputs, .power, .cap, .pulseA, .pulseB, .start, .comps, .faults, .store, .bus] s t

/-- FRAME_TAKEN of a peer frame: the frame leaves the queue; each configured slot whose identity source it matches
takes its identity field, in slot order (R5); then every valid entry that matches identifier and format counts the
frame and takes its field as R10 states, with SIG_FAULTED raised once for each that becomes FAULTED, an empty capture
taking the target signal of one of them, and every other source is left alone. The signals of those entries follow
their sources, CLUTCH_SLIP its inputs, and the start unit with one board change (R17, R82), the key cycle and
SIG_STALE what changed. -/
def Obligations.PeerFrameTaken : Prop :=
  ∀ (s : State) (f : Frame) (rest : List Frame), s.cap.rx = f :: rest →
    ¬ (f.ext = true ∧ f.ident = s.cfg.base + s.cfg.station) →
    ∃ t, exec .frameTaken s = .next t ∧ t.cap.rx = rest ∧
      (∀ i : Fin 27, entryMatching s.cfg f i.val = none → t.cap.sources[i] = s.cap.sources[i]) ∧
      (∀ (i : Fin 27) (e : MapEntry), entryMatching s.cfg f i.val = some e →
        t.cap.sources[i].frames = min 65535 (s.cap.sources[i].frames + 1) ∧ t.cap.sources[i].since = 0 ∧
        (decodeField e f.data = .noFit → t.cap.sources[i].state = s.cap.sources[i].state ∧
          t.cap.sources[i].value = s.cap.sources[i].value ∧ t.cap.sources[i].timeout = s.cap.sources[i].timeout ∧
          t.cap.sources[i].hold = s.cap.sources[i].hold) ∧
        (decodeField e f.data = .notAvailable → t.cap.sources[i].state = .unavailable ∧
          t.cap.sources[i].value = s.cap.sources[i].value ∧ t.cap.sources[i].timeout = none ∧
          t.cap.sources[i].hold = none) ∧
        (decodeField e f.data = .error → t.cap.sources[i].state = .faulted ∧
          t.cap.sources[i].value = s.cap.sources[i].value ∧ t.cap.sources[i].timeout = none ∧
          t.cap.sources[i].hold = none) ∧
        (∀ v, decodeField e f.data = .good v → t.cap.sources[i].state = .fresh ∧ t.cap.sources[i].value = v ∧
          t.cap.sources[i].timeout = some 0 ∧ t.cap.sources[i].hold = none)) ∧
      BoardFollows s.cfg t.cap.sources (fun i => ∃ n e, entryMatching s.cfg f n = some e ∧ e.target = i)
        s.cap.board t.cap.board ∧
      (linkRunning s = true → KeyCycleFollows s t) ∧ StaleFollows s t ∧
      (∃ at' : Nat → State, at' 0 = s.setCap { s.cap with rx := rest } ∧ IdentitiesTaken f at' ∧
        StartFollows (at' 12) t ∧ t.chans = (at' 12).chans ∧ t.spectra = (at' 12).spectra ∧
        t.store = (at' 12).store ∧
        (∀ (i : Fin 27) (e : MapEntry), entryMatching s.cfg f i.val = some e → decodeField e f.data = .error →
          s.cap.sources[i].state ≠ .faulted → (at' 12).faults.record.capture = none →
          ∃ (j : Fin 27) (d : MapEntry), entryMatching s.cfg f j.val = some d ∧ decodeField d f.data = .error ∧
            s.cap.sources[j].state ≠ .faulted ∧
            t.faults.record.capture = some (captureOf s .sigFaulted (some d.target.val)))) ∧
      (countOf s .sigFaulted ≤ 255 → ∃ l : List (Fin 27), l.Pairwise (· < ·) ∧
        (∀ i : Fin 27, i ∈ l ↔ (∃ e, entryMatching s.cfg f i.val = some e ∧ decodeField e f.data = .error) ∧
          s.cap.sources[i].state ≠ .faulted) ∧
        countOf t .sigFaulted = min 255 (countOf s .sigFaulted + l.length)) ∧
      SameBut [.outputs, .power, .cap, .chans, .start, .spectra, .comps, .faults, .store, .bus] s t

/-- FRAME_TAKEN of this station's request frame: the frame leaves the queue and does what the command that stands for
its data does. That it is served inside FRAME_TAKEN is the model's choice (assumption log 17). -/
def Obligations.RequestFrameServed : Prop :=
  ∀ (s : State) (f : Frame) (rest : List Frame), s.cap.rx = f :: rest → linkRunning s = true → f.ext = true →
    f.ident = s.cfg.base + s.cfg.station →
    ∃ t, exec .frameTaken s = .next t ∧ exec (requestCommand f.data) (s.setCap { s.cap with rx := rest }) = .next t ∧
      t.cap = { s.cap with rx := rest }

/-- The raw field of an entry, in both byte orders: the bytes of the field joined with their weights, the low-order bits
discarded, the next L bits taken. -/
def Obligations.RawFieldJoined : Prop :=
  ∀ (e : MapEntry) (data : List Byte), e.start + fieldBytes e ≤ data.length →
    rawField e data =
      ((List.range (fieldBytes e)).map fun k =>
        (byteAt data (e.start + (if e.bigEndian then fieldBytes e - 1 - k else k))).toNat * 256 ^ k).sum /
          2 ^ e.bitOffset % 2 ^ e.len

/-- A field is classified in the order of R8, and a good value is the scaled field held to the range of the target. -/
def Obligations.FieldClassified : Prop :=
  ∀ (e : MapEntry) (data : List Byte),
    (data.length < e.start + fieldBytes e → decodeField e data = .noFit) ∧
    (e.start + fieldBytes e ≤ data.length →
      (4 ≤ e.len → rawField e data = 2 ^ e.len - 1 → decodeField e data = .notAvailable) ∧
      (4 ≤ e.len → rawField e data = 2 ^ e.len - 2 → decodeField e data = .error) ∧
      (e.len < 4 ∨ rawField e data < 2 ^ e.len - 2 →
        ∃ v : Int, decodeField e data = .good v ∧ sigLow e.target ≤ v ∧ v ≤ sigHigh e.target ∧
          (∀ x : Int, x = e.offset + ((rawField e data * e.gain / 2 ^ e.shift : Nat) : Int) →
            (x < sigLow e.target → v = sigLow e.target) ∧ (sigHigh e.target < x → v = sigHigh e.target) ∧
            (sigLow e.target ≤ x → x ≤ sigHigh e.target → v = x))))

/-- SOURCE_TIMER_EXPIRY: a source whose timeout timer has run out becomes HELD with its hold timer started, or STALE
with hold 0; one whose hold timer has run out becomes STALE; values are kept and every other source is left alone. The
signals of those sources follow them, CLUTCH_SLIP its inputs, and the start unit, the key cycle and SIG_STALE what
changed. SIG_STALE takes an empty capture with one of the signals that entered STALE. That the key-cycle count in that
capture is the one after a key cycle which the same event opens is the model's choice: it delivers to power control
before the fault unit, where R17 gives no order (assumption log 14, DESIGN CHOICE). -/
def Obligations.SourceTimersExpire : Prop :=
  ∀ s : State, linkRunning s = true →
    (∃ (i : Fin 27) (it : SrcItems), ageItems s.cfg i = some it ∧ expiring it s.cap.sources[i] = true) →
    ∃ t, exec .sourceTimerExpiry s = .next t ∧ t.cap.rx = s.cap.rx ∧
      (∀ (i : Fin 27) (it : SrcItems), ageItems s.cfg i = some it →
        (∀ n, s.cap.sources[i].timeout = some n → it.timeout ≤ n → 0 < it.hold →
          t.cap.sources[i] = { s.cap.sources[i] with state := .held, timeout := none, hold := some 0 }) ∧
        (∀ n, s.cap.sources[i].timeout = some n → it.timeout ≤ n → it.hold = 0 →
          t.cap.sources[i] = { s.cap.sources[i] with state := .stale, timeout := none, hold := none }) ∧
        (∀ n, s.cap.sources[i].timeout = none → s.cap.sources[i].hold = some n → it.hold ≤ n →
          t.cap.sources[i] = { s.cap.sources[i] with state := .stale, timeout := none, hold := none }) ∧
        (expiring it s.cap.sources[i] = false → t.cap.sources[i] = s.cap.sources[i])) ∧
      (∀ i : Fin 27, ageItems s.cfg i = none → t.cap.sources[i] = s.cap.sources[i]) ∧
      BoardFollows s.cfg t.cap.sources
        (fun i => ∃ (x : Fin 27) (it : SrcItems), ageItems s.cfg x = some it ∧ expiring it s.cap.sources[x] = true ∧
          it.target = i) s.cap.board t.cap.board ∧
      StartFollows s t ∧ KeyCycleFollows s t ∧ StaleFollows s t ∧
      (∀ i : Sig, s.faults.record.capture = none → Used s.cfg i → s.cap.board[i].state ≠ .stale →
        t.cap.board[i].state = .stale → ∃ j : Sig, Used s.cfg j ∧ s.cap.board[j].state ≠ .stale ∧
          t.cap.board[j].state = .stale ∧ t.faults.record.capture = some (captureOf t .sigStale (some j.val))) ∧
      SameBut [.outputs, .power, .cap, .start, .comps, .faults, .bus] s t

/-! ### The accounting tick -/

/-- ACCOUNTING_TICK: in ACTIVE the quiet timer, the interval timer, running windows, source timers, ticks-since-frame,
elapsed ticks and, with the gate open, the summary and status timers gain one; in CLOSING all of these but the quiet
timer, the interval timer and the windows. Each waits at its limit for its own command (assumption log 3).
CHECKPOINT_INTERVAL_EXPIRY at the interval's limit raises a normal request and returns that timer to 0.
STALL_TIMER_EXPIRY at the stall time stops the stall timer, whose count stays, a reading of the spec and not its words
(assumption log 22, DEDUCED). The stall timer is not one of those that wait: R89 has TICK_STEP stop it at the stall
time, so STALL_TIMER_EXPIRY finds it running at its limit only in a state that no run reaches (assumption log 3). -/
def Obligations.TimersCountAndExpire : Prop :=
  (∀ s : State, (s.power.state = .active ∨ s.power.state = .closing) →
    ∃ t, exec .accountingTick s = .next t ∧
      t.faults = { s.faults with elapsed := min 4294967295 (s.faults.elapsed + 1) } ∧
      t.cap.rx = s.cap.rx ∧ t.cap.board = s.cap.board ∧
      (∀ i : Fin 27, t.cap.sources[i].state = s.cap.sources[i].state ∧
        t.cap.sources[i].value = s.cap.sources[i].value ∧ t.cap.sources[i].frames = s.cap.sources[i].frames ∧
        (∀ n it, ageItems s.cfg i = some it → s.cap.sources[i].timeout = some n →
          t.cap.sources[i].timeout = some (min it.timeout (n + 1))) ∧
        (∀ n it, ageItems s.cfg i = some it → s.cap.sources[i].hold = some n →
          t.cap.sources[i].hold = some (min it.hold (n + 1))) ∧
        (i.val < 24 → (srcItems s.cfg i).isSome = true →
          t.cap.sources[i].since = min 65535 (s.cap.sources[i].since + 1))) ∧
      (s.bus.gate = true →
        t.bus = { s.bus with summaryCount := min s.cfg.summary (s.bus.summaryCount + 1),
                             statusCount := min 100 (s.bus.statusCount + 1) }) ∧
      (s.bus.gate = false → t.bus = s.bus) ∧
      (s.power.state = .active →
        t.power = { s.power with quietCount :=
          if s.power.quietRunning then min s.cfg.quiet (s.power.quietCount + 1) else s.power.quietCount } ∧
        t.store = { s.store with interval := min s.cfg.interval (s.store.interval + 1) } ∧
        t.pulseA = (if s.pulseA.running then { s.pulseA with windowTicks := min 10 (s.pulseA.windowTicks + 1) }
          else s.pulseA) ∧
        t.pulseB = (if s.pulseB.running then { s.pulseB with windowTicks := min 10 (s.pulseB.windowTicks + 1) }
          else s.pulseB) ∧
        SameBut [.power, .cap, .pulseA, .pulseB, .faults, .store, .bus, .outputs] s t) ∧
      (s.power.state = .closing → SameBut [.cap, .faults, .bus, .outputs] s t)) ∧
  (∀ s : State, s.power.state ≠ .unsupplied → s.cfg.interval ≤ s.store.interval →
    ∃ t, exec .checkpointIntervalExpiry s = .next t ∧ t.store = { s.store with normal := true, interval := 0 } ∧
      SameBut [.store, .outputs] s t) ∧
  (∀ (s : State) (sc : StartCfg), s.cfg.start = some sc → s.start.stallRunning = true → sc.stall ≤ s.start.stallCount →
    ∃ t, exec .stallTimerExpiry s = .next t ∧ t.start = { s.start with stallRunning := false } ∧
      SameBut [.start, .outputs] s t)

/-! ### Wear channels and spectrum units -/

/-- A band lookup: the lowest band whose limit is at or above the value, or n if every limit is below. -/
def Obligations.BandLookup : Prop :=
  ∀ (limits : List Int) (v : Int),
    bandOf limits v ≤ limits.length ∧
    (∀ (i : Nat) (h : i < limits.length), i < bandOf limits v → limits[i] < v) ∧
    (∀ h : bandOf limits v < limits.length, v ≤ limits[bandOf limits v])

/-- CHANNEL_SAMPLE in ACTIVE moves an enabled channel as Table 4-1 says, by its state and the gate of this sample,
which becomes the last gate; no other channel changes. A pended sample adds its tick, its weight and its estimated
mark to the pending tally, which starts with it and is empty after a qualification and a discard. Its saturation is
raised once under the mark, and its due flag, the due set mark and the DUE notice follow its counters. The spectrum
units the channel owns take a spectrum sample for a credited sample, the pending ticks and a spectrum sample at a
qualification, and nothing otherwise (R74), with COUNTER_SAT and its item number where the unit reports; no other unit
changes. That COUNTER_SAT of the channel comes before its due flag and its spectrum units is the model's choice
(assumption log 15). -/
def Obligations.ChannelMoves : Prop :=
  ∀ (s : State) (c : Fin 24) (cc : ChanCfg) (w : Weighed), s.power.state = .active → s.cfg.channels[c] = some cc →
    w = weigh s.cfg s.cap.board cc (gateEstimated s.cap.board cc s.chans[c].lastOpen) →
    ∃ t, exec (.channelSample c) s = .next t ∧
      t.chans[c].lastOpen = gateOpen s.cap.board cc s.chans[c].lastOpen ∧
      (s.chans[c].state = .idle → gateOpen s.cap.board cc s.chans[c].lastOpen = false → t.chans[c].state = .idle) ∧
      (s.chans[c].state = .idle → gateOpen s.cap.board cc s.chans[c].lastOpen = true → cc.qualify = 0 →
        t.chans[c].state = .running ∧ t.chans[c].episodes = min max32 (s.chans[c].episodes + 1)) ∧
      (s.chans[c].state = .idle → gateOpen s.cap.board cc s.chans[c].lastOpen = true → 0 < cc.qualify →
        t.chans[c].state = .qualifying ∧ t.chans[c].qualify = 1 ∧ t.chans[c].pendTicks = 1 ∧
          t.chans[c].pendWeight = w.weight ∧ t.chans[c].pendEst = (if w.estimated then 1 else 0) ∧
          t.chans[c].pendRevs = 0 ∧ t.chans[c].episodes = s.chans[c].episodes) ∧
      (s.chans[c].state = .qualifying → gateOpen s.cap.board cc s.chans[c].lastOpen = true →
        s.chans[c].qualify < cc.qualify →
        t.chans[c].state = .qualifying ∧ t.chans[c].qualify = s.chans[c].qualify + 1 ∧
          t.chans[c].pendTicks = s.chans[c].pendTicks + 1 ∧
          t.chans[c].pendWeight = s.chans[c].pendWeight + w.weight ∧
          t.chans[c].pendEst = s.chans[c].pendEst + (if w.estimated then 1 else 0) ∧
          t.chans[c].pendRevs = s.chans[c].pendRevs ∧ t.chans[c].episodes = s.chans[c].episodes) ∧
      (s.chans[c].state = .qualifying → gateOpen s.cap.board cc s.chans[c].lastOpen = true →
        s.chans[c].qualify = cc.qualify →
        t.chans[c].state = .running ∧ t.chans[c].qualify = 0 ∧ t.chans[c].pendTicks = 0 ∧
          t.chans[c].pendWeight = 0 ∧ t.chans[c].pendEst = 0 ∧ t.chans[c].pendRevs = 0 ∧
          t.chans[c].episodes = min max32 (s.chans[c].episodes + 1)) ∧
      (s.chans[c].state = .qualifying → gateOpen s.cap.board cc s.chans[c].lastOpen = false →
        t.chans[c].state = .idle ∧ t.chans[c].qualify = 0 ∧ t.chans[c].pendTicks = 0 ∧
          t.chans[c].pendWeight = 0 ∧ t.chans[c].pendEst = 0 ∧ t.chans[c].pendRevs = 0 ∧
          t.chans[c].episodes = s.chans[c].episodes) ∧
      (s.chans[c].state = .running → gateOpen s.cap.board cc s.chans[c].lastOpen = true →
        t.chans[c].state = .running ∧ t.chans[c].episodes = s.chans[c].episodes) ∧
      (s.chans[c].state = .running → gateOpen s.cap.board cc s.chans[c].lastOpen = false → 0 < cc.separation →
        t.chans[c].state = .lingering ∧ t.chans[c].linger = 0) ∧
      (s.chans[c].state = .running → gateOpen s.cap.board cc s.chans[c].lastOpen = false → cc.separation = 0 →
        t.chans[c].state = .idle) ∧
      (s.chans[c].state = .lingering → gateOpen s.cap.board cc s.chans[c].lastOpen = true →
        t.chans[c].state = .running ∧ t.chans[c].linger = 0 ∧ t.chans[c].episodes = s.chans[c].episodes) ∧
      (s.chans[c].state = .lingering → gateOpen s.cap.board cc s.chans[c].lastOpen = false →
        s.chans[c].linger + 1 < cc.separation →
        t.chans[c].state = .lingering ∧ t.chans[c].linger = s.chans[c].linger + 1) ∧
      (s.chans[c].state = .lingering → gateOpen s.cap.board cc s.chans[c].lastOpen = false →
        s.chans[c].linger + 1 = cc.separation → t.chans[c].state = .idle ∧ t.chans[c].linger = 0) ∧
      (gateOpen s.cap.board cc s.chans[c].lastOpen = false →
        t.chans[c].hours = s.chans[c].hours ∧ t.chans[c].hourPre = s.chans[c].hourPre ∧
        t.chans[c].estHours = s.chans[c].estHours ∧ t.chans[c].wear = s.chans[c].wear ∧
        t.chans[c].wearAcc = s.chans[c].wearAcc ∧ t.chans[c].episodes = s.chans[c].episodes ∧
        t.chans[c].revs = s.chans[c].revs ∧ t.chans[c].clip = s.chans[c].clip) ∧
      (∀ d : Fin 24, d ≠ c → t.chans[d] = s.chans[d]) ∧
      (∀ (u : Fin 4) (sc : SpecCfg), s.cfg.spectra[u] = some sc → sc.owner = c →
        ((gateOpen s.cap.board cc s.chans[c].lastOpen = true ∧ (s.chans[c].state = .running ∨
            s.chans[c].state = .lingering ∨ (s.chans[c].state = .idle ∧ cc.qualify = 0))) →
          t.spectra[u] = (spectrumSample s.cfg s.cap.board sc s.spectra[u]).1 ∧
          ((spectrumSample s.cfg s.cap.board sc s.spectra[u]).2 = true → UnitReports u c s t)) ∧
        ((gateOpen s.cap.board cc s.chans[c].lastOpen = true ∧ s.chans[c].state = .qualifying ∧
            s.chans[c].qualify = cc.qualify) →
          t.spectra[u] =
            (spectrumSample s.cfg s.cap.board sc (addUnclassified s.chans[c].pendTicks s.spectra[u]).1).1 ∧
          ((addUnclassified s.chans[c].pendTicks s.spectra[u]).2 = true ∨
              (spectrumSample s.cfg s.cap.board sc (addUnclassified s.chans[c].pendTicks s.spectra[u]).1).2 = true →
            UnitReports u c s t)) ∧
        ((gateOpen s.cap.board cc s.chans[c].lastOpen = false ∨ (s.chans[c].state = .idle ∧ 0 < cc.qualify) ∨
            (s.chans[c].state = .qualifying ∧ s.chans[c].qualify < cc.qualify)) →
          t.spectra[u] = s.spectra[u])) ∧
      (∀ u : Fin 4, (∀ sc, s.cfg.spectra[u] = some sc → sc.owner ≠ c) → t.spectra[u] = s.spectra[u]) ∧
      ChannelReported c cc s t ∧
      ((∀ (u : Fin 4) (sc : SpecCfg), s.cfg.spectra[u] = some sc → sc.owner ≠ c) → ChannelAlone c s t) ∧
      SameBut [.chans, .spectra, .faults, .bus, .outputs] s t

/-- What a credited sample and a qualification add: one tick, or the pending ticks and one, to 360 x hours + prescaler,
the estimated ones of them to the estimated hours, their weight to 92,160 x wear + accumulator, and at a qualification
the pending revolutions to the revolutions; every open sample whose weight clips adds one to the clip count. At its
maximum a counter stays, a carry leaves its prescaler at 0, and a saturated wear leaves its accumulator at 0; that a
qualification's carry into saturated hours drops the remainder is the model's choice (assumption log 46). A pended
sample credits nothing. -/
def Obligations.ChannelCredits : Prop :=
  ∀ (s : State) (c : Fin 24) (cc : ChanCfg) (w : Weighed) (est : Nat), s.power.state = .active →
    s.cfg.channels[c] = some cc → gateOpen s.cap.board cc s.chans[c].lastOpen = true →
    w = weigh s.cfg s.cap.board cc (gateEstimated s.cap.board cc s.chans[c].lastOpen) →
    est = (if w.estimated then 1 else 0) →
    ∃ t, exec (.channelSample c) s = .next t ∧
      (s.chans[c].state ≠ .disabled → s.chans[c].clip ≤ 65535 →
        t.chans[c].clip = min 65535 (s.chans[c].clip + if w.clips then 1 else 0)) ∧
      ((s.chans[c].state = .running ∨ s.chans[c].state = .lingering ∨
          (s.chans[c].state = .idle ∧ cc.qualify = 0)) →
        TicksCredited 1 s.chans[c].hours s.chans[c].hourPre t.chans[c].hours t.chans[c].hourPre ∧
        TicksCredited est s.chans[c].estHours s.chans[c].estPre t.chans[c].estHours t.chans[c].estPre ∧
        WearCredited w.weight s.chans[c].wear s.chans[c].wearAcc t.chans[c].wear t.chans[c].wearAcc ∧
        (s.chans[c].revs ≤ max32 → t.chans[c].revs = s.chans[c].revs)) ∧
      (s.chans[c].state = .qualifying → s.chans[c].qualify = cc.qualify → s.chans[c].pendTicks ≤ 50 →
        s.chans[c].pendEst ≤ s.chans[c].pendTicks →
        TicksCredited (s.chans[c].pendTicks + 1) s.chans[c].hours s.chans[c].hourPre t.chans[c].hours
          t.chans[c].hourPre ∧
        TicksCredited (s.chans[c].pendEst + est) s.chans[c].estHours s.chans[c].estPre t.chans[c].estHours
          t.chans[c].estPre ∧
        WearCredited (s.chans[c].pendWeight + w.weight) s.chans[c].wear s.chans[c].wearAcc t.chans[c].wear
          t.chans[c].wearAcc ∧
        t.chans[c].revs = min max32 (s.chans[c].revs + s.chans[c].pendRevs)) ∧
      ((s.chans[c].state = .idle ∧ 0 < cc.qualify) ∨
          (s.chans[c].state = .qualifying ∧ s.chans[c].qualify < cc.qualify) →
        t.chans[c].hours = s.chans[c].hours ∧ t.chans[c].hourPre = s.chans[c].hourPre ∧
        t.chans[c].estHours = s.chans[c].estHours ∧ t.chans[c].estPre = s.chans[c].estPre ∧
        t.chans[c].wear = s.chans[c].wear ∧ t.chans[c].wearAcc = s.chans[c].wearAcc ∧
        t.chans[c].revs = s.chans[c].revs)

/-- The gate of a sample: open when each configured term is true, by its range or, where its signal is not usable, by
the policy, and gate-estimated where the OPEN or HOLD policy decided a term of an open gate (R56, R57). The weight of
a sample: its base weight from the constant or the map, its factor, their product at scale 256 held at 65,535 with one
clip, and the estimated mark (R40 to R45); and what one credited sample of weight w does to the clip count and to the
wear accumulator, below and at the saturation of the wear counter. -/
def Obligations.WeightsFormedAndAccumulated : Prop :=
  (∀ (b : Board) (cc : ChanCfg) (lastOpen : Bool),
    (∀ x : SigState, usable x = true ↔ x = .fresh ∨ x = .held) ∧
    (gateOpen b cc lastOpen = true ↔
      TermHolds b cc.policy lastOpen cc.term1 ∧ ∀ g, cc.term2 = some g → TermHolds b cc.policy lastOpen g) ∧
    (gateEstimated b cc lastOpen = true ↔ gateOpen b cc lastOpen = true ∧
      (usable b[cc.term1.signal].state = false ∨ ∃ g, cc.term2 = some g ∧ usable b[g.signal].state = false))) ∧
  (∀ (cfg : RunConfig) (b : Board),
    (∀ w, baseWeight cfg b (.constant w) = (w, false)) ∧
    (∀ m fb, cfg.maps[m] = .degraded fb → baseWeight cfg b (.map m) = (fb, false)) ∧
    (∀ (m : Fin 6) (x y : Sig) (xt yt : Fin 10) (fb : Nat) (weights : Vector Nat 64) (lx ly : List Int),
      cfg.maps[m] = .valid x xt y yt fb weights → cfg.bands[xt] = .valid lx → cfg.bands[yt] = .valid ly →
      (usable b[x].state = true → usable b[y].state = true → ∀ bin : Fin 64,
        bin.val = 8 * bandOf lx b[x].value + bandOf ly b[y].value →
        baseWeight cfg b (.map m) = (weights[bin], false)) ∧
      (usable b[x].state = false ∨ usable b[y].state = false → baseWeight cfg b (.map m) = (fb, true))) ∧
    sampleFactor cfg b none = (256, false) ∧
    (∀ f, cfg.factors[f] = .degraded → sampleFactor cfg b (some f) = (256, false)) ∧
    (∀ (f : Fin 3) (x : Sig) (table : Fin 10) (factors : Vector Nat 8) (l : List Int),
      cfg.factors[f] = .valid x table factors → cfg.bands[table] = .valid l →
      (usable b[x].state = true → ∀ band : Fin 8, band.val = bandOf l b[x].value →
        sampleFactor cfg b (some f) = (factors[band], false)) ∧
      (usable b[x].state = false → sampleFactor cfg b (some f) = (256, true))) ∧
    (∀ (cc : ChanCfg) (g : Bool) (w0 f : Nat) (e1 e2 : Bool),
      baseWeight cfg b cc.weight = (w0, e1) → sampleFactor cfg b cc.factor = (f, e2) →
      (weigh cfg b cc g).weight = min 65535 (w0 * f / 256) ∧
      ((weigh cfg b cc g).clips = true ↔ 65535 < w0 * f / 256) ∧
      ((weigh cfg b cc g).estimated = true ↔ g = true ∨ e1 = true ∨ e2 = true))) ∧
  (∀ (w : Weighed) (ch : Channel), ch.clip ≤ 65535 →
    (creditSample w ch).clip = min 65535 (ch.clip + if w.clips then 1 else 0) ∧
    (pendSample w ch).clip = min 65535 (ch.clip + if w.clips then 1 else 0) ∧
    (qualifyChannel w ch).clip = min 65535 (ch.clip + if w.clips then 1 else 0)) ∧
  (∀ (w : Weighed) (ch : Channel), w.weight ≤ 65535 → ch.wearAcc < 92160 →
    (ch.wear < max32 → ch.wearAcc + w.weight < 92160 →
      (creditSample w ch).wear = ch.wear ∧ (creditSample w ch).wearAcc = ch.wearAcc + w.weight) ∧
    (ch.wear + 1 < max32 → 92160 ≤ ch.wearAcc + w.weight →
      (creditSample w ch).wear = ch.wear + 1 ∧ (creditSample w ch).wearAcc = ch.wearAcc + w.weight - 92160) ∧
    (ch.wear + 1 = max32 → 92160 ≤ ch.wearAcc + w.weight →
      (creditSample w ch).wear = max32 ∧ (creditSample w ch).wearAcc = 0) ∧
    (ch.wear = max32 → (creditSample w ch).wear = max32 ∧ (creditSample w ch).wearAcc = 0))

/-- The estimated hours after a HOURS preset has given hours its new value. -/
def Obligations.EstimatedHoursAligned : Prop :=
  ∀ (st : Staged) (ch : Channel), st.quantity = .hours →
    ∀ h : Nat, h = min max32 (st.value + (ch.hours - st.base)) →
      (applyPreset st ch).hours = h ∧ (applyPreset st ch).hourPre = ch.hourPre ∧
      (h < ch.estHours → (applyPreset st ch).estHours = h ∧ (applyPreset st ch).estPre = 0) ∧
      (ch.estHours = h → (applyPreset st ch).estHours = h ∧
        (applyPreset st ch).estPre = (if ch.hourPre < ch.estPre then ch.hourPre else ch.estPre)) ∧
      (ch.estHours < h → (applyPreset st ch).estHours = ch.estHours ∧ (applyPreset st ch).estPre = ch.estPre)

/-- A spectrum sample at an accepted unit that is not degraded: classified when both axis signals are usable, with the
divider, the bin, the rescale and the loss at scale 15 as R100 to R102 say; unclassified otherwise, as at a degraded
unit. A number of unclassified ticks adds to the count alone, held at its maximum, with COUNTER_SAT once under the
mark. -/
def Obligations.SpectrumSampleClassified : Prop :=
  ∀ (cfg : RunConfig) (b : Board) (owner : Fin 24) (x y : Sig) (xt yt : Fin 10) (r : Spectrum) (nx ny bx by' : Nat)
    (bin : Fin 64),
    nx = (tableLimits cfg xt).length → ny = (tableLimits cfg yt).length → nx ≤ 7 → ny ≤ 7 →
    bx = bandOf (tableLimits cfg xt) b[x].value → by' = bandOf (tableLimits cfg yt) b[y].value →
    bin.val = 8 * bx + by' →
    (usable b[x].state = true → usable b[y].state = true →
      (r.divider + 1 < 2 ^ r.scale →
        spectrumSample cfg b { owner := owner, axes := some (x, xt, y, yt) } r =
          ({ r with divider := r.divider + 1 }, false)) ∧
      (r.divider + 1 = 2 ^ r.scale → r.bins[bin] < max24 →
        spectrumSample cfg b { owner := owner, axes := some (x, xt, y, yt) } r =
          ({ r with divider := 0, bins := r.bins.set bin (r.bins[bin] + 1) }, false)) ∧
      (r.divider + 1 = 2 ^ r.scale → r.bins[bin] = max24 → r.scale < 15 →
        ∃ q, spectrumSample cfg b { owner := owner, axes := some (x, xt, y, yt) } r = (q, false) ∧
          q.scale = r.scale + 1 ∧ q.divider = 0 ∧ q.unclassified = r.unclassified ∧ q.satReported = r.satReported ∧
          q.bins[bin] = 8388608 ∧
          ∀ i : Fin 64, i ≠ bin →
            q.bins[i] = (if i.val / 8 ≤ nx ∧ i.val % 8 ≤ ny then r.bins[i] / 2 else r.bins[i])) ∧
      (r.divider + 1 = 2 ^ r.scale → r.bins[bin] = max24 → r.scale = 15 →
        spectrumSample cfg b { owner := owner, axes := some (x, xt, y, yt) } r =
          ({ r with divider := 0, satReported := true }, !r.satReported))) ∧
    (usable b[x].state = false ∨ usable b[y].state = false →
      spectrumSample cfg b { owner := owner, axes := some (x, xt, y, yt) } r = addUnclassified 1 r) ∧
    spectrumSample cfg b { owner := owner, axes := none } r = addUnclassified 1 r ∧
    ∀ n : Nat, (addUnclassified n r).1.unclassified = min max32 (r.unclassified + n) ∧
      (addUnclassified n r).1.bins = r.bins ∧ (addUnclassified n r).1.scale = r.scale ∧
      (addUnclassified n r).1.divider = r.divider ∧
      ((addUnclassified n r).2 = true ↔ max32 ≤ r.unclassified + n ∧ r.satReported = false) ∧
      ((addUnclassified n r).1.satReported = true ↔ r.satReported = true ∨ max32 ≤ r.unclassified + n)

/-! ### The start unit -/

/-- TICK_STEP in ACTIVE at a unit in use: nothing in OFF and UNVERIFIED; a crank tick and, at the limit, one over-crank
in CRANKING; a confirm tick and, when they are complete, the start in CONFIRMING; the stop test, the end of the run
with its stall, and the stall timer in RUNNING. -/
def Obligations.TickStepTaken : Prop :=
  ∀ (s : State) (sc : StartCfg), s.power.state = .active → s.cfg.start = some sc →
    ∃ t, exec .tickStep s = .next t ∧
      (s.start.state = .off ∨ s.start.state = .unverified → SameBut [.outputs] s t) ∧
      (s.start.state = .cranking →
        t.start = { s.start with
          crankTicks := min 65535 (s.start.crankTicks + 1)
          overCrank := s.start.overCrank || decide (min 65535 (s.start.crankTicks + 1) = sc.crankLimit) } ∧
        (∀ (i : Fin 12) (k : StarterTallies), sc.starter = some i → s.comps.slots[i].tallies = .starter k →
          k.overCranks ≤ max32 → t.comps.slots[i].tallies = .starter { k with
            crankTicks := min max32 (k.crankTicks + 1)
            overCranks := min max32 (k.overCranks +
              (if min 65535 (s.start.crankTicks + 1) = sc.crankLimit ∧ s.start.overCrank = false then 1 else 0)) })) ∧
      (s.start.state = .confirming → s.start.confirm + 1 < sc.confirm →
        t.start = { s.start with confirm := s.start.confirm + 1 } ∧ t.comps = s.comps) ∧
      (s.start.state = .confirming → sc.confirm ≤ s.start.confirm + 1 →
        t.start.state = .running ∧ t.start.stop = 0 ∧
        (0 < sc.stall → t.start.stallRunning = true ∧ t.start.stallCount = 0) ∧
        (∀ k : EngineTallies, s.comps.slots[sc.engine].tallies = .engine k →
          t.comps.slots[sc.engine].tallies = .engine { k with
            starts := min max32 (k.starts + 1)
            cold := min max32 (k.cold + (if s.start.temp = .cold then 1 else 0))
            openMark := false })) ∧
      (s.start.state = .running → usable s.cap.board[sEngineSpeed].state = true →
        s.cap.board[sEngineSpeed].value < (sc.stop : Int) → s.start.stop + 1 < sc.stopTicks →
        t.start.state = .running ∧ t.start.stop = s.start.stop + 1 ∧ t.comps = s.comps) ∧
      (s.start.state = .running → usable s.cap.board[sEngineSpeed].state = true →
        s.cap.board[sEngineSpeed].value < (sc.stop : Int) → sc.stopTicks ≤ s.start.stop + 1 →
        t.start.state = .off ∧ t.start.stallRunning = false ∧
        (∀ k : EngineTallies, s.comps.slots[sc.engine].tallies = .engine k → k.stalls ≤ max32 →
          t.comps.slots[sc.engine].tallies = .engine { k with
            stalls := min max32 (k.stalls + (if s.start.stallRunning then 1 else 0)) })) ∧
      (s.start.state = .running → usable s.cap.board[sEngineSpeed].state = true →
        (sc.stop : Int) ≤ s.cap.board[sEngineSpeed].value →
        t.start.state = .running ∧ t.start.stop = 0 ∧ t.comps = s.comps) ∧
      (s.start.state = .running → usable s.cap.board[sEngineSpeed].state = false →
        t.start.state = .running ∧ t.start.stop = s.start.stop ∧ t.comps = s.comps) ∧
      (s.start.state = .running → t.start.state = .running → s.start.stallRunning = true →
        t.start.stallCount = s.start.stallCount + 1 ∧
        t.start.stallRunning = decide (s.start.stallCount + 1 < sc.stall)) ∧
      SameBut [.start, .comps, .outputs] s t

/-- A board change at the start unit, by its state, the crank indication before and after it and the engine speed: an
attempt opened in OFF, a cranking ended in CRANKING, a confirmation broken or cranked again in CONFIRMING, an attempt
resolved or replaced in UNVERIFIED, a hot crank in RUNNING, with the tallies of both slots. -/
def Obligations.BoardChangesFollowed : Prop :=
  ∀ (s : State) (sc : StartCfg), s.power.state = .active → s.cfg.start = some sc →
    (startBoardChange s).start.lastCrank =
      ((usable s.cap.board[sKeyState].state && decide (s.cap.board[sKeyState].value = 3)) ||
        (usable s.cap.board[sStarterEngaged].state && decide (s.cap.board[sStarterEngaged].value = 1))) ∧
    (∀ k : EngineTallies, s.start.state = .off → s.comps.slots[sc.engine].tallies = .engine k →
      (crankIndication s.cap.board = true → s.start.lastCrank = false → k.attempts < max32 →
        (startBoardChange s).start.state = .cranking ∧ (startBoardChange s).start.crankTicks = 0 ∧
        (startBoardChange s).start.overCrank = false ∧
        (startBoardChange s).start.temp =
          (if usable s.cap.board[sCoolantTemp].state then
            (if s.cap.board[sCoolantTemp].value < sc.cold then .cold else .warm) else .unknown) ∧
        (startBoardChange s).comps.slots[sc.engine].tallies =
          .engine { k with attempts := k.attempts + 1, openMark := true }) ∧
      (crankIndication s.cap.board = true → s.start.lastCrank = false → k.attempts = max32 →
        (startBoardChange s).start.state = .off ∧ (startBoardChange s).comps.slots[sc.engine].tallies = .engine k) ∧
      (crankIndication s.cap.board = false ∨ s.start.lastCrank = true →
        (startBoardChange s).start.state = .off ∧ (startBoardChange s).comps = s.comps)) ∧
    (s.start.state = .cranking → s.start.lastCrank = true → crankIndication s.cap.board = false →
      (usable s.cap.board[sEngineSpeed].state = true → (sc.run : Int) ≤ s.cap.board[sEngineSpeed].value →
        (startBoardChange s).start.state = .confirming ∧ (startBoardChange s).start.confirm = 0 ∧
        (startBoardChange s).comps = s.comps) ∧
      (usable s.cap.board[sEngineSpeed].state = true → s.cap.board[sEngineSpeed].value < (sc.run : Int) →
        (startBoardChange s).start.state = .off ∧
        ∀ k : EngineTallies, s.comps.slots[sc.engine].tallies = .engine k →
          (startBoardChange s).comps.slots[sc.engine].tallies =
            .engine { k with failed := min max32 (k.failed + 1), openMark := false }) ∧
      (usable s.cap.board[sEngineSpeed].state = false → (startBoardChange s).start.state = .unverified ∧
        (startBoardChange s).comps = s.comps)) ∧
    (s.start.state = .cranking → crankIndication s.cap.board = true →
      (startBoardChange s).start.state = .cranking ∧ (startBoardChange s).comps = s.comps) ∧
    (s.start.state = .confirming → crankIndication s.cap.board = true → s.start.lastCrank = false →
      (startBoardChange s).start = { s.start with state := .cranking, confirm := 0, lastCrank := true }) ∧
    ((s.start.state = .confirming ∨ s.start.state = .unverified) →
      (crankIndication s.cap.board = false ∨ s.start.lastCrank = true) →
      usable s.cap.board[sEngineSpeed].state = true → s.cap.board[sEngineSpeed].value < (sc.run : Int) →
      (startBoardChange s).start.state = .off ∧
      ∀ k : EngineTallies, s.comps.slots[sc.engine].tallies = .engine k →
        (startBoardChange s).comps.slots[sc.engine].tallies =
          .engine { k with failed := min max32 (k.failed + 1), openMark := false }) ∧
    ((s.start.state = .confirming ∨ s.start.state = .unverified) →
      (crankIndication s.cap.board = false ∨ s.start.lastCrank = true) →
      usable s.cap.board[sEngineSpeed].state = false →
      (startBoardChange s).start.state = .unverified ∧ (startBoardChange s).comps = s.comps ∧
      (s.start.state = .confirming → (startBoardChange s).start.confirm = 0)) ∧
    (s.start.state = .confirming → (crankIndication s.cap.board = false ∨ s.start.lastCrank = true) →
      usable s.cap.board[sEngineSpeed].state = true → (sc.run : Int) ≤ s.cap.board[sEngineSpeed].value →
      (startBoardChange s).start = { s.start with lastCrank := crankIndication s.cap.board } ∧
      (startBoardChange s).comps = s.comps) ∧
    (s.start.state = .unverified → (crankIndication s.cap.board = false ∨ s.start.lastCrank = true) →
      usable s.cap.board[sEngineSpeed].state = true → (sc.run : Int) ≤ s.cap.board[sEngineSpeed].value →
      (startBoardChange s).start.state = .running ∧ (startBoardChange s).start.stop = 0 ∧
      (0 < sc.stall → (startBoardChange s).start.stallRunning = true ∧ (startBoardChange s).start.stallCount = 0) ∧
      ∀ k : EngineTallies, s.comps.slots[sc.engine].tallies = .engine k →
        (startBoardChange s).comps.slots[sc.engine].tallies = .engine { k with
          starts := min max32 (k.starts + 1)
          cold := min max32 (k.cold + (if s.start.temp = .cold then 1 else 0))
          openMark := false }) ∧
    (s.start.state = .unverified → crankIndication s.cap.board = true → s.start.lastCrank = false →
      ∀ k : EngineTallies, s.comps.slots[sc.engine].tallies = .engine k →
        (k.attempts < max32 → (startBoardChange s).start.state = .cranking ∧
          (startBoardChange s).start.crankTicks = 0 ∧ (startBoardChange s).comps.slots[sc.engine].tallies =
            .engine { k with
              unresolved := min max32 (k.unresolved + 1), attempts := k.attempts + 1, openMark := true }) ∧
        (k.attempts = max32 → (startBoardChange s).start.state = .off ∧
          (startBoardChange s).comps.slots[sc.engine].tallies =
            .engine { k with unresolved := min max32 (k.unresolved + 1), openMark := false })) ∧
    (s.start.state = .running →
      (startBoardChange s).start = { s.start with lastCrank := crankIndication s.cap.board } ∧
      (crankIndication s.cap.board = false ∨ s.start.lastCrank = true → (startBoardChange s).comps = s.comps)) ∧
    (∀ (i : Fin 12) (k : StarterTallies), sc.starter = some i → i ≠ sc.engine →
      s.comps.slots[i].tallies = .starter k →
      (crankIndication s.cap.board = true → s.start.lastCrank = false → s.start.state ≠ .cranking →
        (startBoardChange s).comps.slots[i].tallies = .starter { k with
          engagements := min max32 (k.engagements + 1)
          hotCranks := if s.start.state = .running then min max32 (k.hotCranks + 1) else k.hotCranks }) ∧
      (crankIndication s.cap.board = false ∨ s.start.lastCrank = true →
        (startBoardChange s).comps.slots[i].tallies = .starter k)) ∧
    SameBut [.start, .comps] s (startBoardChange s)

/-! ### Pulse units -/

/-- COUNTED_EDGE: a selected edge at a unit in use adds one to the prescaler, whose wrap adds one to a lifetime count
below its maximum, and one to the edges of a running window. A wrap in ACTIVE, at the maximum too, gives each channel
bound to the unit one revolution event: a revolution in RUNNING, a pending one in QUALIFYING, none in any other state,
with COUNTER_SAT where it saturates; which of several a capture latches is left open. It restarts the quiet
timer in ACTIVE, wakes a PARKED part when wake is enabled and sets the pulse wake mark in LOADING. Any other edge is
ignored. The operands are the model's choice (assumption log 5). -/
def Obligations.CountedEdgeTaken : Prop :=
  (∀ (s : State) (u : PulseId) (rising : Bool) (m : Nat), pulseInUse (pulseCfg s.cfg u) = true →
    edgeSelected (pulseCfg s.cfg u).edge rising = true → s.power.state ≠ .unsupplied →
    m = (pulseCfg s.cfg u).teeth * (if (pulseCfg s.cfg u).edge = .both then 2 else 1) →
    (s.pulse u).prescaler < m →
    ∃ t, exec (.countedEdge u rising) s = .next t ∧
      (t.pulse u).prescaler = (if (s.pulse u).prescaler + 1 = m then 0 else (s.pulse u).prescaler + 1) ∧
      (t.pulse u).lifetime =
        min max32 ((s.pulse u).lifetime + if (s.pulse u).prescaler + 1 = m then 1 else 0) ∧
      ((s.pulse u).lifetime < max32 →
        (t.pulse u).lifetime * m + (t.pulse u).prescaler = (s.pulse u).lifetime * m + (s.pulse u).prescaler + 1) ∧
      (t.pulse u).windowEdges =
        (if (s.pulse u).running then min 16777215 ((s.pulse u).windowEdges + 1) else (s.pulse u).windowEdges) ∧
      (∀ v : PulseId, v ≠ u → t.pulse v = s.pulse v) ∧
      (s.power.state = .active → t.power = { s.power with quietCount := 0 } ∧
        (∀ (c : Fin 24) (cc : ChanCfg), s.cfg.channels[c] = some cc → cc.revSource = some u →
          (s.pulse u).prescaler + 1 = m → RevolutionCounted c s t) ∧
        (∀ c : Fin 24, (s.pulse u).prescaler + 1 ≠ m ∨
            (∀ cc, s.cfg.channels[c] = some cc → cc.revSource ≠ some u) → t.chans[c] = s.chans[c]) ∧
        (countOf s .counterSat ≤ 255 → ∃ l : List (Fin 24), l.Pairwise (· < ·) ∧
          (∀ c : Fin 24, c ∈ l ↔ (∃ cc, s.cfg.channels[c] = some cc ∧ cc.revSource = some u) ∧
            (s.pulse u).prescaler + 1 = m ∧ SaturationReports c s t) ∧
          countOf t .counterSat = min 255 (countOf s .counterSat + l.length) ∧
          (l ≠ [] → s.faults.record.capture = none →
            ∃ c ∈ l, t.faults.record.capture = some (captureOf s .counterSat (some c.val))))) ∧
      (s.power.state ≠ .active → ∀ c : Fin 24, t.chans[c].revs = s.chans[c].revs) ∧
      (s.power.state ≠ .active → s.power.state ≠ .parked ∨ (pulseCfg s.cfg u).wakeEnable = false →
        t.chans = s.chans) ∧
      (s.power.state = .parked → (pulseCfg s.cfg u).wakeEnable = true → t.power.state = .waking ∧
        t.power.cause = (match u with | .a => .pulseA | .b => .pulseB)) ∧
      (s.power.state = .loading → (pulseCfg s.cfg u).wakeEnable = true →
        t.power = { s.power with pulseWake := some (s.power.pulseWake.getD u) }) ∧
      (s.power.state = .waking ∨ s.power.state = .closing ∨
        ((s.power.state = .parked ∨ s.power.state = .loading) ∧ (pulseCfg s.cfg u).wakeEnable = false) →
        t.power = s.power) ∧
      SameBut [.power, .cap, .pulseA, .pulseB, .chans, .faults, .bus, .outputs] s t) ∧
  (∀ (s : State) (u : PulseId) (rising : Bool),
    pulseInUse (pulseCfg s.cfg u) = false ∨ edgeSelected (pulseCfg s.cfg u).edge rising = false →
    exec (.countedEdge u rising) s = .next s)

/-- WINDOW_END: the source of the unit, where it has one, is refreshed with the window speed; the disagreement count
follows the comparison with the bus source, with one SIG_DISAGREE at the fifth; a new window begins. The signal of the
source follows it, CLUTCH_SLIP its inputs, and the start unit, the key cycle and SIG_STALE what changed. -/
def Obligations.WindowEndRefreshes : Prop :=
  ∀ (s : State) (u : PulseId) (m a : Nat), s.power.state = .active → pulseInUse (pulseCfg s.cfg u) = true →
    (s.pulse u).running = true → 10 ≤ (s.pulse u).windowTicks →
    m = (pulseCfg s.cfg u).teeth * (if (pulseCfg s.cfg u).edge = .both then 2 else 1) →
    a = min 8000 ((s.pulse u).windowEdges * 60 / m) →
    ∃ t, exec (.windowEnd u) s = .next t ∧
      (t.pulse u).running = true ∧ (t.pulse u).windowTicks = 0 ∧ (t.pulse u).windowEdges = 0 ∧
      (t.pulse u).prescaler = (s.pulse u).prescaler ∧ (t.pulse u).lifetime = (s.pulse u).lifetime ∧
      (∀ v : PulseId, v ≠ u → t.pulse v = s.pulse v) ∧ t.cap.rx = s.cap.rx ∧
      (∀ i : Fin 27, i ≠ pulseSrc u → t.cap.sources[i] = s.cap.sources[i]) ∧
      ((pulseCfg s.cfg u).status ≠ .hasSource → t.cap = s.cap ∧ (t.pulse u).disagree = (s.pulse u).disagree) ∧
      ((pulseCfg s.cfg u).status = .hasSource →
        t.cap.sources[pulseSrc u] =
          { s.cap.sources[pulseSrc u] with state := .fresh, value := (a : Int), timeout := some 0, hold := none } ∧
        BoardFollows s.cfg t.cap.sources (fun i => i = (pulseCfg s.cfg u).target) s.cap.board t.cap.board ∧
        StartFollows s t ∧ KeyCycleFollows s t ∧ StaleFollows s t ∧
        (busSpeed s.cfg s.cap.sources (pulseCfg s.cfg u).target = none →
          (t.pulse u).disagree = (s.pulse u).disagree) ∧
        (∀ b : Int, busSpeed s.cfg s.cap.sources (pulseCfg s.cfg u).target = some b →
          countOf s .sigDisagree ≤ 255 →
          ((((pulseCfg s.cfg u).tolerance : Int) * max (a : Int) b < 100 * |(a : Int) - b| ∧ 300 ≤ max (a : Int) b) →
            (t.pulse u).disagree = (if (s.pulse u).disagree + 1 < 5 then (s.pulse u).disagree + 1 else 0) ∧
            countOf t .sigDisagree = min 255 (countOf s .sigDisagree +
              (if (s.pulse u).disagree + 1 < 5 then 0 else 1)) ∧
            (5 ≤ (s.pulse u).disagree + 1 → statusOf t.faults .sigDisagree = true ∧
              (s.faults.record.capture = none →
                (∀ i : Sig, Used s.cfg i → t.cap.board[i].state = .stale → s.cap.board[i].state = .stale) →
                t.faults.record.capture =
                  some (captureOf t .sigDisagree (some (pulseCfg s.cfg u).target.val))))) ∧
          (¬ ((((pulseCfg s.cfg u).tolerance : Int) * max (a : Int) b < 100 * |(a : Int) - b| ∧
              300 ≤ max (a : Int) b)) →
            (t.pulse u).disagree = 0 ∧ countOf t .sigDisagree = countOf s .sigDisagree))) ∧
      SameBut [.power, .cap, .pulseA, .pulseB, .start, .comps, .faults, .bus, .outputs] s t

/-! ### Bus traffic -/

/-- LINK_STATE_CHANGE. To LINK_OFF: the queue emptied with one TX_DROP when it held a frame that is no summary, its
index the kind of the first such frame, the slot freed, the key-cycle list emptied, the gate shut, LINK_OFF present
and raised. To LINK_ACTIVE: the state, and the end of the condition. To LINK_PASSIVE: the state alone, from LINK_OFF
too, which is the model's reading (assumption log 25). -/
def Obligations.LinkStateTaken : Prop :=
  (∀ s : State, linkRunning s = true → s.bus.link ≠ .off → countOf s .txDrop ≤ 255 →
    ∃ t, exec (.linkStateChange .off) s = .next t ∧ t.bus.link = .off ∧ t.bus.gate = false ∧ t.bus.offer = .none ∧
      t.bus.keyList = [] ∧ t.bus.slot = .idle ∧ t.bus.burst = [] ∧ (∀ f ∈ t.bus.queue, f.kind = .notice) ∧
      t.faults.linkOff = some none ∧ statusOf t.faults .linkOff = true ∧
      countOf t .linkOff = min 255 (countOf s .linkOff + 1) ∧
      countOf t .txDrop = min 255 (countOf s .txDrop +
        (if s.bus.queue.any (fun f => decide (f.origin ≠ .summary)) then 1 else 0)) ∧
      (s.faults.record.capture = none →
        (∀ pre f post, s.bus.queue = pre ++ f :: post → (∀ g ∈ pre, g.origin = .summary) → f.origin ≠ .summary →
          t.faults.record.capture = some (captureOf s .txDrop
            (some (match f.kind with | .response => 1 | .notice => 2 | .status => 3 | .summary => 4)))) ∧
        ((∀ f ∈ s.bus.queue, f.origin = .summary) →
          t.faults.record.capture = some (captureOf s .linkOff none))) ∧
      t.store.port = s.store.port ∧
      (∀ op, s.store.port = some op → serviceOp op = true → t.store.discard = true) ∧
      SameBut [.faults, .store, .bus, .outputs] s t) ∧
  (∀ s : State, linkRunning s = true → s.bus.link ≠ .active →
    ∃ t, exec (.linkStateChange .active) s = .next t ∧ t.bus = { s.bus with link := .active } ∧
      t.faults = { s.faults with linkOff := none } ∧ SameBut [.faults, .bus, .outputs] s t) ∧
  (∀ s : State, linkRunning s = true → s.bus.link ≠ .passive →
    ∃ t, exec (.linkStateChange .passive) s = .next t ∧ t.bus = { s.bus with link := .passive } ∧
      SameBut [.bus, .outputs] s t)

/-- FRAME_SENT and the feeders. The frame at the head leaves and the new head is offered where R179 allows it; the last
frame of a burst returns the slot to IDLE; the burst feeds while the queue holds 6 frames or fewer and the key-cycle
notice list while it holds 5 or fewer, at the report and in the feeders' own commands; a report without an offered or
withdrawn head is ignored. What a feeder does as a command of its own, and that a report at a withdrawn head is one of
a transmission begun before, are the model's choices (assumption logs 18 and 43). -/
def Obligations.FramesLeaveAndFeed : Prop :=
  (∀ (s : State) (f : TxFrame) (r : List TxFrame), s.bus.queue = f :: r → s.bus.offer ≠ .none →
    ∃ t, exec .frameSent s = .next t ∧
      (f.origin ≠ .burst → s.bus.fed = s.bus.burst.length → s.bus.keyList = [] →
        t.bus = { s.bus with queue := r, offer :=
          if s.bus.gate && linkRunning s && decide (s.bus.link ≠ .off) && !r.isEmpty then .offered else .none }) ∧
      (f.origin = .burst → s.bus.fed = s.bus.burst.length → s.bus.sent + 1 = s.bus.burst.length →
        t.bus.slot = .idle ∧ t.bus.burst = [] ∧ t.bus.fed = 0 ∧ t.bus.sent = 0) ∧
      (f.origin = .burst → s.bus.sent + 1 < s.bus.burst.length →
        t.bus.slot = s.bus.slot ∧ t.bus.burst = s.bus.burst ∧ t.bus.sent = s.bus.sent + 1) ∧
      (∀ g, f.origin ≠ .burst → s.bus.burst[s.bus.fed]? = some g → r.length = 6 →
        t.bus.fed = s.bus.fed + 1 ∧ t.bus.queue.length = 7 ∧ g ∈ t.bus.queue) ∧
      (∀ c rest cc, s.bus.fed = s.bus.burst.length → f.origin ≠ .burst → r.length = 5 →
        s.bus.keyList = c :: rest → s.cfg.channels[c] = some cc → s.chans[c].due = true →
        t.bus.keyList = rest ∧ t.bus.queue.length = 6 ∧ dueNotice s c cc 1 ∈ t.bus.queue) ∧
      SameBut [.bus, .outputs] s t) ∧
  (∀ s : State, s.bus.queue = [] ∨ s.bus.offer = .none → exec .frameSent s = .next s) ∧
  (∀ (s : State) (g : TxFrame), s.bus.burst[s.bus.fed]? = some g → s.bus.queue.length ≤ 6 →
    ∃ t, exec .burstFeed s = .next t ∧ t.bus.fed = s.bus.fed + 1 ∧
      t.bus.queue.length = s.bus.queue.length + 1 ∧ g ∈ t.bus.queue ∧ t.bus.burst = s.bus.burst ∧
      SameBut [.bus, .outputs] s t) ∧
  (∀ (s : State) (c : Fin 24) (rest : List (Fin 24)) (cc : ChanCfg), s.bus.keyList = c :: rest →
    s.cfg.channels[c] = some cc → s.chans[c].due = true → s.bus.queue.length ≤ 5 →
    ∃ t, exec .keyCycleNoticeFeed s = .next t ∧ t.bus.keyList = rest ∧
      t.bus.queue.length = s.bus.queue.length + 1 ∧
      { kind := .notice, origin := .notice, ident := s.cfg.base + 32 + s.cfg.station,
        data := [1, BitVec.ofNat 8 c.val, (match cc.basis with | .hours => 0 | .wear => 1), 1] ++
          leBytes 3 (min 16777215 ((match cc.basis with | .hours => s.chans[c].hours | .wear => s.chans[c].wear) / 100)) }
        ∈ t.bus.queue ∧
      SameBut [.bus, .outputs] s t) ∧
  (∀ s : State, s.bus.keyList ≠ [] → s.bus.queue.length ≤ 5 → (∀ c ∈ s.bus.keyList, s.chans[c].due = false) →
    ∃ t, exec .keyCycleNoticeFeed s = .next t ∧ t.bus = { s.bus with keyList := [] } ∧ SameBut [.bus, .outputs] s t)

/-- A frame that joins: placed in identifier order behind the frames of its own identifier, and behind a head that is
offered or withdrawn; at a full queue a summary is dropped, any other frame takes the place of the summary that joined
last, and without one it is dropped with TX_DROP. A raise: the kind counted and set, the capture latched if it was
empty, and a FAULT notice with the count queued where an unmasked kind turns on while the link controller runs. -/
def Obligations.FramesJoinAndFaultsRaise : Prop :=
  (∀ (s : State) (f : TxFrame) (head behind : List TxFrame),
    s.bus.queue = head ++ behind → (s.bus.offer = .none → head = []) → (s.bus.offer ≠ .none → head.length = 1) →
    Ordered behind →
    (s.bus.queue.length < 8 → ∃ pre post, behind = pre ++ post ∧ (∀ g ∈ pre, g.ident ≤ f.ident) ∧
      (∀ g ∈ post, f.ident < g.ident) ∧ (queueFrame f s).bus.queue = head ++ pre ++ f :: post ∧
      (queueFrame f s).faults = s.faults) ∧
    (s.bus.queue.length = 8 → f.origin = .summary →
      (queueFrame f s).bus.queue = s.bus.queue ∧ (queueFrame f s).faults = s.faults) ∧
    (∀ (p q : List TxFrame) (g : TxFrame), s.bus.queue.length = 8 → f.origin ≠ .summary → behind = p ++ g :: q →
      g.origin = .summary → (∀ x ∈ q, x.origin ≠ .summary) →
      ∃ pre post, p ++ q = pre ++ post ∧ (∀ x ∈ pre, x.ident ≤ f.ident) ∧ (∀ x ∈ post, f.ident < x.ident) ∧
        (queueFrame f s).bus.queue = head ++ pre ++ f :: post ∧ (queueFrame f s).faults = s.faults) ∧
    (s.bus.queue.length = 8 → f.origin ≠ .summary → (∀ x ∈ behind, x.origin ≠ .summary) →
      statusOf (queueFrame f s).faults .txDrop = true ∧ (queueFrame f s).bus.queue = s.bus.queue ∧
      (statusOf s.faults .txDrop = true →
        countOf (queueFrame f s) .txDrop = min 255 (countOf s .txDrop + 1)))) ∧
  (∀ (s : State) (k : FaultKind) (index : Option Nat),
    statusOf (raise k index s).faults k = true ∧
    (k ≠ .txDrop ∨ s.bus.queue.length < 8 → countOf (raise k index s) k = min 255 (countOf s k + 1)) ∧
    (∀ j : FaultKind, j ≠ k → j ≠ .txDrop →
      statusOf (raise k index s).faults j = statusOf s.faults j ∧ countOf (raise k index s) j = countOf s j) ∧
    (s.faults.record.capture = none → (raise k index s).faults.record.capture =
      some { kind := k, keyCycle := s.power.keyCycles, index := index, elapsed := s.faults.elapsed }) ∧
    (∀ x, s.faults.record.capture = some x → (raise k index s).faults.record.capture = some x) ∧
    (statusOf s.faults k = false → s.cfg.faultMasks.getLsbD (kindIndex k).val = false → linkRunning s = true →
      s.bus.queue.length < 8 → (raise k index s).bus.queue.length = s.bus.queue.length + 1 ∧
        { kind := .notice, origin := .notice, ident := s.cfg.base + 32 + s.cfg.station,
          data := [3, BitVec.ofNat 8 (kindIndex k).val,
            (match index with | none => 0xFF | some n => BitVec.ofNat 8 n),
            BitVec.ofNat 8 (min 255 (countOf s k + 1))] } ∈ (raise k index s).bus.queue) ∧
    (statusOf s.faults k = true ∨ s.cfg.faultMasks.getLsbD (kindIndex k).val = true ∨ linkRunning s = false →
      (raise k index s).bus = s.bus) ∧
    SameBut [.faults, .bus] s (raise k index s))

/-- SUMMARY_TIMER_EXPIRY and STATUS_TIMER_EXPIRY: the count returns to 0, the pointer moves to the next enabled channel
and its SUMMARY joins or, at a full queue, is dropped without a fault; the STATUS joins. -/
def Obligations.SummaryAndStatusSent : Prop :=
  (∀ s : State, s.bus.gate = true → linkRunning s = true → s.cfg.summary ≤ s.bus.summaryCount →
    ∃ t, exec .summaryTimerExpiry s = .next t ∧ t.bus.summaryCount = 0 ∧
      ((∀ c : Fin 24, s.cfg.channels[c] = none) → t.bus = { s.bus with summaryCount := 0 }) ∧
      (∀ (c : Fin 24) (d : Nat), s.cfg.channels[c].isSome = true → d < 24 →
        c = Fin.ofNat 24 (s.bus.pointer.val + 1 + d) →
        (∀ e, e < d → s.cfg.channels[(Fin.ofNat 24 (s.bus.pointer.val + 1 + e) : Fin 24)] = none) →
        t.bus.pointer = c ∧ (s.bus.queue.length = 8 → t.bus.queue = s.bus.queue) ∧
        (s.bus.queue.length < 8 → t.bus.queue.length = s.bus.queue.length + 1 ∧
          { kind := .summary, origin := .summary, ident := s.cfg.base + 64 + s.cfg.station,
            data := [BitVec.ofNat 8 c.val,
                BitVec.ofNat 8 ((if s.chans[c].due then 1 else 0) + (if s.chans[c].saturated then 2 else 0) +
                  (if 0 < s.chans[c].estHours then 4 else 0))] ++
              leBytes 3 (min 16777215 (s.chans[c].hours / 100)) ++
              leBytes 3 (min 16777215 (s.chans[c].wear / 100)) } ∈ t.bus.queue)) ∧
      SameBut [.bus, .outputs] s t) ∧
  (∀ s : State, s.bus.gate = true → linkRunning s = true → 100 ≤ s.bus.statusCount →
    ∃ t, exec .statusTimerExpiry s = .next t ∧ t.bus.statusCount = 0 ∧
      (s.bus.queue.length < 8 → t.bus.queue.length = s.bus.queue.length + 1 ∧ t.faults = s.faults ∧
        { kind := .status, origin := .status, ident := s.cfg.base + 48 + s.cfg.station,
          data := [BitVec.ofNat 8 (powerStateCode s.power.state + 16 * wakeCauseCode s.power.cause)] ++
            leBytes 3 s.power.keyCycles ++
            [BitVec.ofNat 8 (dueCount s), BitVec.ofNat 8 (unmaskedCount s), linkStateCode s.bus.link,
              if s.cfg.fallback then 1 else 0] } ∈ t.bus.queue) ∧
      SameBut [.faults, .bus, .outputs] s t)

/-! ### The record store -/

/-- The order in which a FREE port begins what waits. -/
def Obligations.PortOrder : Prop :=
  ∀ s : State,
    (s.store.port ≠ none → portChoice s = .nothing) ∧
    (s.store.port = none →
      (s.store.urgent = true → portChoice s = .checkpoint) ∧
      (s.store.urgent = false →
        (∀ e r, s.comps.queue = e :: r → portChoice s = .historyWrite e) ∧
        (s.comps.queue = [] →
          (∀ o, s.bus.slot = .waitingStore (.readConfig o) false → portChoice s = .slotOp (.readConfig o)) ∧
          (∀ o bs, s.bus.slot = .waitingStore (.writeConfig o bs) false →
            portChoice s = .slotOp (.writeConfig o bs)) ∧
          (∀ d, s.bus.slot = .waitingStore (.readHistory d) false → s.store.wipePending = false →
            s.store.wipeRunning = false → portChoice s = .slotOp (.readHistory d)) ∧
          ((∀ req, s.bus.slot ≠ .waitingStore req false) ∨
              (∃ d, s.bus.slot = .waitingStore (.readHistory d) false ∧
                (s.store.wipePending = true ∨ s.store.wipeRunning = true)) →
            (s.store.wipePending = true → portChoice s = .wipe) ∧
            (s.store.wipePending = false → s.store.normal = true → s.power.state ≠ .loading →
              portChoice s = .checkpoint) ∧
            (s.store.wipePending = false → s.store.normal = false ∨ s.power.state = .loading →
              portChoice s = .nothing)))))

/-- CHECKPOINT_BEGIN that R132 chooses: staged presets applied, the flags, the orderly mark and the interval timer
cleared. With a candidate slot the first one in ring order is written with the next sequence and the snapshot of RAM
as it then stands, and holds no valid checkpoint from then on; that its bytes are erased is the model's choice
(assumption log 35). Without a candidate, or at the sequence limit, the journal is disabled with STORE_WRITE (R140);
that the index is that of the last failure where both hold is the model's choice (assumption log 29). A skip, under
the fallback configuration, with the journal disabled or at the begin that disables it, writes nothing, and an orderly
one in CLOSING parks the part, or wakes it at once with the WAKE line active (R157); that it completes inside the
begin is the model's choice (assumption log 18), as are the request slot freed at PARKED entry from an operation it
waits for (assumption log 42) and a begin at any other time, which does nothing (assumption log 19). -/
def Obligations.CheckpointBegins : Prop :=
  (∀ s : State, portChoice s = .checkpoint → s.cfg.fallback = false → s.store.disabled = false →
    s.store.lastIssued < max32 → (∃ j : Fin 11, s.store.bad[j] = false ∧ s.store.newest ≠ some j) →
    ∃ (t : State) (j : Fin 11) (snap : Checkpoint) (first d : Nat), exec .checkpointBegin s = .next t ∧
      t.store = { s.store with normal := false, urgent := false, orderly := false, interval := 0, discard := false,
                               lastIssued := s.store.lastIssued + 1, port := some (.checkpoint j snap) } ∧
      first = (match s.store.newest with | none => 0 | some n => n.val + 1) ∧
      j = Fin.ofNat 11 (first + d) ∧ s.store.bad[j] = false ∧ s.store.newest ≠ some j ∧
      (∀ e, e < d → s.store.bad[(Fin.ofNat 11 (first + e) : Fin 11)] = true) ∧
      snap.seq = s.store.lastIssued + 1 ∧ snap.orderly = s.store.orderly ∧ snap.layout = s.cfg.layout ∧
      snap.keyCycles = s.power.keyCycles ∧ snap.unclosed = s.store.unclosed ∧ snap.torn = s.store.torn ∧
      snap.lifetimeA = s.pulseA.lifetime ∧ snap.lifetimeB = s.pulseB.lifetime ∧ snap.spectra = s.spectra ∧
      snap.faults = t.faults.record ∧ snap.queue = s.comps.queue ∧ snap.nextSeq = s.comps.nextSeq ∧
      (∀ i : Fin 12, snap.openAttempt = some i ↔
        ∃ sc x, s.cfg.start = some sc ∧ sc.engine = i ∧ s.comps.slots[i].tallies = .engine x ∧ x.openMark = true) ∧
      (∀ i : Fin 12, snap.components[i].cls = s.cfg.classes[i] ∧
        snap.components[i].identity = s.comps.slots[i].identity ∧
        snap.components[i].generation = s.comps.slots[i].generation ∧
        snap.components[i].install = s.comps.slots[i].install ∧
        snap.components[i].tallies = s.comps.slots[i].tallies ∧
        snap.components[i].bound = boundChannels s.cfg i) ∧
      (∀ c : Fin 24, snap.channels[c].hours = t.chans[c].hours ∧ snap.channels[c].hourPre = t.chans[c].hourPre ∧
        snap.channels[c].estHours = t.chans[c].estHours ∧ snap.channels[c].estPre = t.chans[c].estPre ∧
        snap.channels[c].wear = t.chans[c].wear ∧ snap.channels[c].wearAcc = t.chans[c].wearAcc ∧
        snap.channels[c].episodes = t.chans[c].episodes ∧ snap.channels[c].revs = t.chans[c].revs ∧
        snap.channels[c].clip = t.chans[c].clip ∧ snap.channels[c].satReported = t.chans[c].satReported ∧
        (s.cfg.channels[c].isSome = true → t.chans[c].staged = none) ∧
        (s.chans[c].staged = none → t.chans[c] = s.chans[c])) ∧
      (∀ seq, slotAt t.nvm j ≠ .valid seq) ∧
      (∀ a, 0x2800 + 4096 * j.val ≤ a → a < 0x2800 + 4096 * j.val + 4096 → memRead t.nvm a = 0xFF) ∧
      (∀ a, a < 0x2800 + 4096 * j.val ∨ 0x2800 + 4096 * j.val + 4096 ≤ a → memRead t.nvm a = memRead s.nvm a) ∧
      SameBut [.chans, .faults, .store, .nvm, .bus, .outputs] s t) ∧
  (∀ s : State, portChoice s = .checkpoint → (s.cfg.fallback = true ∨ s.store.disabled = true) →
    ∃ t, exec .checkpointBegin s = .next t ∧ t.store.port = none ∧ t.store.normal = s.store.followUp ∧
      t.store.urgent = false ∧ t.store.orderly = false ∧ t.store.interval = 0 ∧
      t.store.lastIssued = s.store.lastIssued ∧
      (s.power.state ≠ .closing ∨ s.store.orderly = false →
        SameBut [.chans, .faults, .store, .bus, .outputs] s t) ∧
      (s.power.state = .closing → s.store.orderly = true → ParksOrWakes s t) ∧
      Block.nvm.same s t ∧ Block.spectra.same s t) ∧
  (∀ (s : State) (index : Nat), portChoice s = .checkpoint → s.cfg.fallback = false → s.store.disabled = false →
    ((∀ j : Fin 11, s.store.bad[j] = true ∨ s.store.newest = some j) ∧
        (∃ j : Fin 11, s.store.lastFailed = some j ∧ index = 32 + j.val)) ∨
      ((∃ j : Fin 11, s.store.bad[j] = false ∧ s.store.newest ≠ some j) ∧ max32 ≤ s.store.lastIssued ∧
        ∃ j : Fin 11, s.store.newest = some j ∧ index = 32 + j.val) →
    ∃ t, exec .checkpointBegin s = .next t ∧ t.store.disabled = true ∧ t.store.port = none ∧
      t.faults.storeWrite = some (some index) ∧ statusOf t.faults .storeWrite = true ∧
      (s.faults.record.capture = none → (∀ c : Fin 24, s.chans[c].staged = none) →
        t.faults.record.capture = some (captureOf s .storeWrite (some index))) ∧
      countOf t .storeWrite = min 255 (countOf s .storeWrite + 1) ∧
      t.store.normal = s.store.followUp ∧ t.store.urgent = false ∧ t.store.orderly = false ∧ t.store.interval = 0 ∧
      t.store.lastIssued = s.store.lastIssued ∧ t.store.newest = s.store.newest ∧
      (s.power.state ≠ .closing ∨ s.store.orderly = false →
        SameBut [.chans, .faults, .store, .bus, .outputs] s t) ∧
      (s.power.state = .closing → s.store.orderly = true → ParksOrWakes s t) ∧
      Block.nvm.same s t ∧ Block.spectra.same s t) ∧
  (∀ s : State, portChoice s ≠ .checkpoint → exec .checkpointBegin s = .next s)

/-- PRESET_APPLICATION: the quantity becomes the preset value plus its growth since the staging, at most the maximum;
the preset is then absent, the other counters are kept, but for estimated hours under a HOURS preset and the
accumulator of a saturated wear counter. COUNTER_SAT is raised once under the mark, and the due flag, the due set mark
and, at a turn on while the link controller runs, the DUE notice follow. When it acts as a command of its own is the
model's choice (assumption log 36). -/
def Obligations.PresetApplied : Prop :=
  ∀ (s : State) (c : Fin 24) (cc : ChanCfg) (st : Staged) (v : Nat), portChoice s = .checkpoint →
    s.cfg.channels[c] = some cc → s.chans[c].staged = some st →
    v = min max32 (st.value + (quantityOf st.quantity s.chans[c] - st.base)) →
    ∃ t, exec (.presetApplication c) s = .next t ∧ t.chans[c].staged = none ∧
      quantityOf st.quantity t.chans[c] = v ∧
      (∀ q : Quantity, q ≠ st.quantity → quantityOf q t.chans[c] = quantityOf q s.chans[c]) ∧
      (st.quantity ≠ .hours → t.chans[c].estHours = s.chans[c].estHours ∧ t.chans[c].estPre = s.chans[c].estPre) ∧
      (st.quantity = .wear → t.chans[c].wearAcc = (if v = max32 then 0 else s.chans[c].wearAcc)) ∧
      (st.quantity ≠ .wear → t.chans[c].wearAcc = s.chans[c].wearAcc) ∧
      t.chans[c].hourPre = s.chans[c].hourPre ∧ t.chans[c].state = s.chans[c].state ∧
      ChannelReported c cc s t ∧ ChannelAlone c s t ∧
      (∀ d : Fin 24, d ≠ c → t.chans[d] = s.chans[d]) ∧
      SameBut [.chans, .faults, .bus, .outputs] s t

/-- CHECKPOINT_COMPLETION. The slot is read back and compared with the snapshot's 4,096 bytes. Equal: the slot holds
the snapshot, valid with its sequence, and is the newest valid slot. Not equal: the slot is marked bad and not valid,
STORE_WRITE raised, a normal request raised, the orderly request made again unless its CLOSING was abandoned. An
orderly checkpoint written in CLOSING parks the part, or wakes it at once with the WAKE line active (R157); no other
completion moves it. The bytes that differ are an operand, and what a failed slot holds is the model's choice
(assumption logs 7 and 35), as is the request slot freed at PARKED entry from an operation it waits for (log 42). -/
def Obligations.CheckpointCompletes : Prop :=
  ∀ (s : State) (j : Fin 11) (snap : Checkpoint), StoreSound s → s.store.port = some (.checkpoint j snap) →
    (∀ dev : Deviation, dev = [] ∨ slotBytes (writtenSlot s.nvm j snap dev) j = encodeCheckpoint snap →
      ∃ t, exec (.checkpointCompletion dev) s = .next t ∧
      (∀ k, k < 4096 → memRead t.nvm (0x2800 + 4096 * j.val + k) = (encodeCheckpoint snap).getD k 0) ∧
      (∀ a, a < 0x2800 + 4096 * j.val ∨ 0x2800 + 4096 * j.val + 4096 ≤ a → memRead t.nvm a = memRead s.nvm a) ∧
      (1 ≤ snap.seq → snap.seq ≤ max32 → slotAt t.nvm j = .valid snap.seq) ∧
      (CheckpointFits snap → checkpointAt t.nvm j = snap) ∧
      t.store.newest = some j ∧ t.store.newestSeq = snap.seq ∧ t.store.port = none ∧ t.store.bad = s.store.bad ∧
      t.store.followUp = false ∧ t.store.normal = (s.store.normal || s.store.followUp) ∧
      (s.power.state ≠ .closing ∨ snap.orderly = false →
        t.power = s.power ∧ SameBut [.store, .nvm, .outputs] s t) ∧
      (s.power.state = .closing → snap.orderly = true → ParksOrWakes s t)) ∧
    (∀ dev : Deviation, slotBytes (writtenSlot s.nvm j snap dev) j ≠ encodeCheckpoint snap →
      ∃ t, exec (.checkpointCompletion dev) s = .next t ∧
      t.store.newest = s.store.newest ∧ t.store.newestSeq = s.store.newestSeq ∧ t.store.port = none ∧
      t.store.bad = s.store.bad.set j true ∧ t.store.normal = true ∧ t.store.followUp = false ∧
      (snap.orderly = true → s.store.followUp = false → t.store.urgent = true ∧ t.store.orderly = true) ∧
      (snap.orderly = false ∨ s.store.followUp = true →
        t.store.urgent = s.store.urgent ∧ t.store.orderly = s.store.orderly) ∧
      statusOf t.faults .storeWrite = true ∧ countOf t .storeWrite = min 255 (countOf s .storeWrite + 1) ∧
      (s.faults.record.capture = none →
        t.faults.record.capture = some (captureOf s .storeWrite (some (32 + j.val)))) ∧
      (∀ seq, slotAt t.nvm j ≠ .valid seq) ∧
      (∀ a, a < 0x2800 + 4096 * j.val ∨ 0x2800 + 4096 * j.val + 4096 ≤ a → memRead t.nvm a = memRead s.nvm a) ∧
      SameBut [.store, .nvm, .faults, .bus, .outputs] s t)

/-! ### The history log, configuration words and the wipe -/

/-- HISTORY_WRITE_BEGIN drops the position from the index, with one HIST_OVERFLOW if it was there, and occupies the
port with the record of the head. HISTORY_WRITE_COMPLETION takes the head from the queue: read back valid, the
position enters the index with its sequence and the record stands in the store; otherwise STORE_WRITE is raised and no
valid record is left at the position, so that the entry evicted from it is gone whatever the outcome (R121). A write cut
by a warm restart leaves its position torn and its entry at the head (R120). The free bytes, the differing bytes at the
completion or the cut and the retry operand are the model's (assumption logs 7, 8, 18, 20 and 35), and so is that no
other valid record stands at a failed position by chance (assumption log 7). -/
def Obligations.HistoryWrites : Prop :=
  (∀ (s : State) (e : HistEntry), portChoice s = .historyWrite e →
    ∃ (t : State) (free : List Byte), exec .historyWriteBegin s = .next t ∧ free.length = 4 ∧
      t.store = { s.store with port := some (.historyWrite e (encodeEntry free e)), discard := false } ∧
      t.comps = { s.comps with index := s.comps.index.filter fun x => decide (x.1 ≠ e.seq % 32) } ∧
      ((∀ x ∈ s.comps.index, x.1 ≠ e.seq % 32) → t.faults = s.faults) ∧
      ((∃ x ∈ s.comps.index, x.1 = e.seq % 32) → statusOf t.faults .histOverflow = true ∧
        countOf t .histOverflow = min 255 (countOf s .histOverflow + 1) ∧
        (s.faults.record.capture = none →
          t.faults.record.capture = some (captureOf s .histOverflow (some (e.seq % 32))))) ∧
      SameBut [.comps, .faults, .store, .bus, .freeCount, .outputs] s t) ∧
  (∀ (s : State) (e : HistEntry) (bs : List Byte) (r : List HistEntry) (retryFirst : Bool), StoreSound s →
    s.store.port = some (.historyWrite e bs) → s.comps.queue = e :: r →
    (retryFirst = false ∨ ∀ i : Fin 12, closeDeferred s.comps.slots[i] = false) →
    (bs.length = 256 → classifyHistory (e.seq % 32) bs = .valid e.seq →
      ∃ t, exec (.historyWriteCompletion [] retryFirst) s = .next t ∧
        t.store = { s.store with port := none, discard := false } ∧ t.comps.queue = r ∧
        (∀ x, x ∈ t.comps.index ↔ x = (e.seq % 32, e.seq) ∨ x ∈ s.comps.index) ∧
        (s.comps.index.Pairwise (fun x y => x.2 < y.2) → (∀ x ∈ s.comps.index, x.2 ≠ e.seq) →
          t.comps.index.Pairwise fun x y => x.2 < y.2) ∧
        t.comps.slots = s.comps.slots ∧ t.comps.nextSeq = s.comps.nextSeq ∧
        (∀ k, k < 256 → memRead t.nvm (0x800 + 256 * (e.seq % 32) + k) = bs.getD k 0) ∧
        (∀ a, a < 0x800 + 256 * (e.seq % 32) ∨ 0x800 + 256 * (e.seq % 32) + 256 ≤ a →
          memRead t.nvm a = memRead s.nvm a) ∧
        SameBut [.comps, .store, .nvm, .outputs] s t) ∧
    (∀ dev, historyAt (writtenBytes s.nvm (e.seq % 32) bs dev) (e.seq % 32) ≠ .valid e.seq →
      ∃ t, exec (.historyWriteCompletion dev retryFirst) s = .next t ∧
        t.store = { s.store with port := none, discard := false } ∧ t.comps = { s.comps with queue := r } ∧
        statusOf t.faults .storeWrite = true ∧ countOf t .storeWrite = min 255 (countOf s .storeWrite + 1) ∧
        (s.faults.record.capture = none →
          t.faults.record.capture = some (captureOf s .storeWrite (some (e.seq % 32)))) ∧
        (∀ seq, historyAt t.nvm (e.seq % 32) ≠ .valid seq) ∧
        (∀ a, a < 0x800 + 256 * (e.seq % 32) ∨ 0x800 + 256 * (e.seq % 32) + 256 ≤ a →
          memRead t.nvm a = memRead s.nvm a) ∧
        SameBut [.comps, .faults, .store, .nvm, .bus, .outputs] s t)) ∧
  (∀ (s : State) (e : HistEntry) (bs : List Byte) (cut : Deviation), StoreSound s → s.power.state ≠ .unsupplied →
    s.power.ramValid = true → s.store.port = some (.historyWrite e bs) →
    ∃ t, exec (.reset cut) s = .next t ∧ historyAt t.nvm (e.seq % 32) = .torn ∧ t.store.port = none ∧
      t.comps.queue = s.comps.queue ∧ t.comps.index = s.comps.index ∧
      ∀ a, a < 0x800 + 256 * (e.seq % 32) ∨ 0x800 + 256 * (e.seq % 32) + 256 ≤ a →
        memRead t.nvm a = memRead s.nvm a)

/-- What the part stores reads back. A history entry as R198 lays it out: 256 bytes, valid at its position with its
sequence, every field at its offset and 0xFF from the end of the tallies to byte 253; the bytes of an absent identity
are free (assumption log 20). A checkpoint: 4,096 bytes whose words sum to 0 modulo 65,536, 0xFF between its items and
the check word, classed valid with its sequence, and its items unchanged; where each item stands is the model's choice
(assumption log 9). -/
def Obligations.StoredRecordsReadBack : Prop :=
  (∀ (free : List Byte) (e : HistEntry) (b : List Byte) (n w : Nat), free.length = 4 → e.seq ≤ max32 →
    e.chans.length = n → n ≤ 4 → b = encodeEntry free e →
    w = (match e.tallies with | .none => 0 | .engine _ => 24 | .starter _ => 16) →
    b.length = 256 ∧ classifyHistory (e.seq % 32) b = .valid e.seq ∧ (1 ≤ n → entryLength b = 22 + 21 * n + w) ∧
    leNat (b.take 4) = e.seq ∧ byteAt b 4 = BitVec.ofNat 8 e.slot.val ∧ byteAt b 5 = classCode e.cls ∧
    (byteAt b 6).toNat = (match e.reason with
        | .identityChange => 0 | .serviceClose => 1 | .serviceIdentity => 2 | .layoutChange => 3) +
      (if e.identity.isSome then 4 else 0) +
      (match e.tallies with | .none => 0 | .engine _ => 16 | .starter _ => 32) ∧
    byteAt b 7 = BitVec.ofNat 8 n ∧
    (∀ v, e.identity = some v → v ≤ max32 → leNat ((b.drop 8).take 4) = v) ∧
    (e.generation ≤ max16 → leNat ((b.drop 12).take 2) = e.generation) ∧
    (e.install ≤ max32 → leNat ((b.drop 14).take 4) = e.install) ∧
    (e.closeKey ≤ max32 → leNat ((b.drop 18).take 4) = e.closeKey) ∧
    (∀ (k : Nat) (c : EntryChan), e.chans[k]? = some c →
      byteAt b (22 + 21 * k) = (match c.number with | none => 0xFF | some i => BitVec.ofNat 8 i.val) ∧
      (b.drop (23 + 21 * k)).take 20 = leBytes 4 c.hours ++ leBytes 4 c.estHours ++ leBytes 4 c.wear ++
        leBytes 4 c.episodes ++ leBytes 4 c.revs) ∧
    (∀ t, e.tallies = .engine t → (b.drop (22 + 21 * n)).take 24 =
      leBytes 4 t.attempts ++ leBytes 4 t.starts ++ leBytes 4 t.failed ++ leBytes 4 t.unresolved ++ leBytes 4 t.cold ++
        leBytes 4 t.stalls) ∧
    (∀ t, e.tallies = .starter t → (b.drop (22 + 21 * n)).take 16 =
      leBytes 4 t.engagements ++ leBytes 4 t.crankTicks ++ leBytes 4 t.overCranks ++ leBytes 4 t.hotCranks) ∧
    (∀ k, 22 + 21 * n + w ≤ k → k ≤ 253 → byteAt b k = 0xFF)) ∧
  (∀ c : Checkpoint,
    (encodeCheckpoint c).length = 4096 ∧ wordSum (encodeCheckpoint c) % 65536 = 0 ∧
    (∀ k, 2575 ≤ k → k ≤ 4093 → byteAt (encodeCheckpoint c) k = 0xFF) ∧
    (1 ≤ c.seq → c.seq ≤ max32 → classifySlot (encodeCheckpoint c) = .valid c.seq) ∧
    (CheckpointFits c → decodeCheckpoint (encodeCheckpoint c) = c))

/-- HISTORY_READ_BEGIN reads the position of the (d + 1)-th highest sequence or answers NO_SUCH;
HISTORY_READ_COMPLETION sends the record, or takes the position from the index with STORE_TORN and answers NO_SUCH.
WIPE_BEGIN moves the pending mark to the running mark and empties the index; WIPE_COMPLETION leaves every byte of
blocks 1 to 4 at 0xFF and nothing else changed, or raises STORE_WRITE once for each position that is not blank. The
differing bytes of a wipe are an operand (assumption logs 7 and 35). That a record read for a slot since freed is
classified all the same, with STORE_TORN and the position taken from the index, is the model's choice (assumption log
7). -/
def Obligations.HistoryReadAndWipeServed : Prop :=
  (∀ (s : State) (d : Nat), portChoice s = .slotOp (.readHistory d) →
    (s.comps.index.length ≤ d → ∃ t, exec .historyReadBegin s = .next t ∧
      Sends [resultPage s.cfg 5 .noSuch] t ∧ FedAsRoomAllows s t ∧ SameBut [.bus, .outputs] s t) ∧
    (∀ x : Nat × Nat, d < s.comps.index.length → s.comps.index[s.comps.index.length - 1 - d]? = some x →
      ∃ t, exec .historyReadBegin s = .next t ∧
        t.store = { s.store with port := some (.historyRead d x.1 x.2), discard := false } ∧
        t.bus = { s.bus with slot := .waitingStore (.readHistory d) true } ∧
        SameBut [.store, .bus, .outputs] s t)) ∧
  (∀ (s : State) (d p seq : Nat), s.store.port = some (.historyRead d p seq) →
    (historyAt s.nvm p = .valid seq → ∃ t, exec .historyReadCompletion s = .next t ∧
      t.store = { s.store with port := none, discard := false } ∧
      (s.store.discard = false → Sends (historyFrames s.cfg d (historyBytes s.nvm p)) t ∧ FedAsRoomAllows s t) ∧
      (s.store.discard = true → t.bus = s.bus) ∧
      SameBut [.store, .bus, .outputs] s t) ∧
    (historyAt s.nvm p ≠ .valid seq → ∃ t, exec .historyReadCompletion s = .next t ∧
      t.store = { s.store with port := none, discard := false } ∧
      t.comps = { s.comps with index := s.comps.index.filter fun x => decide (x.1 ≠ p) } ∧
      statusOf t.faults .storeTorn = true ∧ countOf t .storeTorn = min 255 (countOf s .storeTorn + 1) ∧
      (s.faults.record.capture = none → t.faults.record.capture = some (captureOf s .storeTorn (some p))) ∧
      (s.store.discard = false → Sends [resultPage s.cfg 5 .noSuch] t) ∧
      (s.store.discard = true → t.bus.slot = s.bus.slot ∧ t.bus.burst = s.bus.burst) ∧
      SameBut [.comps, .faults, .store, .bus, .outputs] s t)) ∧
  (∀ s : State, portChoice s = .wipe → ∃ t, exec .wipeBegin s = .next t ∧
    t.store = { s.store with wipePending := false, wipeRunning := true, port := some .wipe, discard := false } ∧
    t.comps = { s.comps with index := [] } ∧ SameBut [.comps, .store, .outputs] s t) ∧
  (∀ s : State, s.store.port = some .wipe →
    (∃ t, exec (.wipeCompletion []) s = .next t ∧
      t.store = { s.store with port := none, discard := false, wipeRunning := false } ∧
      (∀ a, 0x800 ≤ a → a < 0x2800 → memRead t.nvm a = 0xFF) ∧
      (∀ a, a < 0x800 ∨ 0x2800 ≤ a → memRead t.nvm a = memRead s.nvm a) ∧
      SameBut [.store, .nvm, .outputs] s t) ∧
    (∀ dev, countOf s .storeWrite ≤ 255 → ∃ t, exec (.wipeCompletion dev) s = .next t ∧
      t.store = { s.store with port := none, discard := false, wipeRunning := false } ∧
      countOf t .storeWrite = min 255 (countOf s .storeWrite +
        ((List.range 32).filter fun p => decide (historyAt t.nvm p ≠ .blank)).length) ∧
      (∀ p, s.faults.record.capture = none → p < 32 → historyAt t.nvm p ≠ .blank → statusOf t.faults .storeWrite = true ∧
        ∃ q, q < 32 ∧ historyAt t.nvm q ≠ .blank ∧
          t.faults.record.capture = some (captureOf s .storeWrite (some q))) ∧
      (∀ a, a < 0x800 ∨ 0x2800 ≤ a → memRead t.nvm a = memRead s.nvm a) ∧
      SameBut [.faults, .store, .nvm, .bus, .outputs] s t))

/-- CONFIG_READ and CONFIG_WRITE: the begins occupy the port; a read answers the four stored bytes; a write stores its
four bytes, answers the word read back and raises STORE_WRITE where that differs. The running configuration stays. The
differing bytes of a write are an operand (assumption logs 7 and 35), and that the answer is handed over and fed
before STORE_WRITE is raised is the model's choice (assumption log 15). -/
def Obligations.ConfigWordsServed : Prop :=
  (∀ (s : State) (o : Nat), portChoice s = .slotOp (.readConfig o) → ∃ t, exec .configReadBegin s = .next t ∧
    t.store = { s.store with port := some (.configRead o), discard := false } ∧
    t.bus = { s.bus with slot := .waitingStore (.readConfig o) true } ∧ SameBut [.store, .bus, .outputs] s t) ∧
  (∀ (s : State) (o : Nat), s.store.port = some (.configRead o) → ∃ t, exec .configReadCompletion s = .next t ∧
    t.store = { s.store with port := none, discard := false } ∧
    (s.store.discard = false → FedAsRoomAllows s t ∧
      Sends [{ kind := .response, origin := .burst, ident := s.cfg.base + 16 + s.cfg.station,
               data := [7, 0] ++ leBytes 2 o ++ (List.range 4).map fun i => memRead s.nvm (4 * o + i) }] t) ∧
    (s.store.discard = true → t.bus = s.bus) ∧ SameBut [.store, .bus, .freeCount, .outputs] s t) ∧
  (∀ (s : State) (o : Nat) (bs : List Byte), portChoice s = .slotOp (.writeConfig o bs) →
    ∃ t, exec .configWriteBegin s = .next t ∧
      t.store = { s.store with port := some (.configWrite o bs), discard := false } ∧
      t.bus = { s.bus with slot := .waitingStore (.writeConfig o bs) true } ∧ SameBut [.store, .bus, .outputs] s t) ∧
  (∀ (s : State) (o : Nat) (bs : List Byte), StoreSound s → s.store.port = some (.configWrite o bs) → bs.length = 4 →
    (∃ t, exec (.configWriteCompletion []) s = .next t ∧
      t.store = { s.store with port := none, discard := false } ∧
      (∀ k, k < 4 → memRead t.nvm (4 * o + k) = bs.getD k 0) ∧
      (∀ a, a < 4 * o ∨ 4 * o + 4 ≤ a → memRead t.nvm a = memRead s.nvm a) ∧
      (s.store.discard = false → FedAsRoomAllows s t ∧
        Sends [{ kind := .response, origin := .burst, ident := s.cfg.base + 16 + s.cfg.station,
                 data := [14, 0] ++ leBytes 2 o ++ bs }] t) ∧
      (s.store.discard = true → t.bus = s.bus) ∧ SameBut [.store, .nvm, .bus, .freeCount, .outputs] s t) ∧
    (∀ dev, configWord (writtenWord s.nvm o bs dev) o ≠ bs →
      ∃ t, exec (.configWriteCompletion dev) s = .next t ∧
        statusOf t.faults .storeWrite = true ∧ countOf t .storeWrite = min 255 (countOf s .storeWrite + 1) ∧
        (s.faults.record.capture = none → t.faults.record.capture = some (captureOf s .storeWrite (some 43))) ∧
        (∀ a, a < 4 * o ∨ 4 * o + 4 ≤ a → memRead t.nvm a = memRead s.nvm a) ∧
        (s.store.discard = false →
          Sends [{ kind := .response, origin := .burst, ident := s.cfg.base + 16 + s.cfg.station,
                   data := [14, 0] ++ leBytes 2 o ++ (List.range 4).map fun i => memRead t.nvm (4 * o + i) }] t ∧
          t.bus.fed = min 1 (7 - s.bus.queue.length)) ∧
        SameBut [.faults, .store, .nvm, .bus, .freeCount, .outputs] s t))

/-! ### Components -/

/-- An identity field at a configured slot, by the slot's state as Table 7-1 lists it. -/
def Obligations.IdentityConfirmed : Prop :=
  ∀ (i : Fin 12) (cls : Sys2Proof.Machine.Class) (v : Nat) (s : State) (r : Component), r = s.comps.slots[i] →
    (v = 0xFFFFFFFF → identityField i cls v s = s) ∧
    (v ≠ 0xFFFFFFFF →
      (r.state = .unidentified →
        identityField i cls v s = s.setSlot i { r with state := .present, identity := some v }) ∧
      (r.state = .present → r.identity = some v → identityField i cls v s = s) ∧
      (r.state = .present → r.identity ≠ some v →
        identityField i cls v s = s.setSlot i { r with state := .candidate, candidate := some v, confirm := 1 }) ∧
      (r.state = .candidate → r.identity = some v →
        identityField i cls v s = s.setSlot i { r with state := .present, candidate := none, confirm := 0 }) ∧
      (r.state = .candidate → r.identity ≠ some v → r.candidate = some v → r.confirm = 1 →
        identityField i cls v s = s.setSlot i { r with confirm := 2 }) ∧
      (r.state = .candidate → r.identity ≠ some v → r.candidate = some v → r.confirm = 2 ∨ r.confirm = 3 →
        (s.comps.queue.length < 4 → s.comps.nextSeq < max32 →
          ClosedSlot i cls .identityChange (some v) s (identityField i cls v s) ∧
          SameBut [.chans, .start, .spectra, .comps, .faults, .store, .bus] s (identityField i cls v s)) ∧
        (4 ≤ s.comps.queue.length ∨ max32 ≤ s.comps.nextSeq →
          identityField i cls v s = s.setSlot i { r with confirm := 3 })) ∧
      (r.state = .candidate → r.identity ≠ some v → r.candidate ≠ some v →
        identityField i cls v s = s.setSlot i { r with candidate := some v, confirm := 1 }))

/-- The closes that commands make: CLOSE_COMPONENT with no identity afterwards, SET_IDENTITY with the one it gives,
and DEFERRED_CLOSE_RETRY of the deferred closes in slot order, each while one can be made; a close that cannot be made
changes nothing and a service request for it is answered QUEUE_FULL. The retry as a command of its own is the model's
choice (assumption log 18). -/
def Obligations.ClosesMade : Prop :=
  (∀ (s : State) (params : List Byte) (i : Fin 12) (cls : Sys2Proof.Machine.Class), SlotTakes s →
    s.cfg.fallback = false → standstill s = true → 1 ≤ params.length → (byteAt params 0).toNat = i.val →
    s.cfg.classes[i] = some cls →
    (s.comps.queue.length < 4 → s.comps.nextSeq < max32 → ∃ t, exec (.closeComponent params) s = .next t ∧
      ClosedSlot i cls .serviceClose none s t ∧ Sends [resultPage s.cfg 10 .done] t ∧
      SameBut [.chans, .start, .spectra, .comps, .faults, .store, .bus, .outputs] s t) ∧
    (4 ≤ s.comps.queue.length ∨ max32 ≤ s.comps.nextSeq → ∃ t, exec (.closeComponent params) s = .next t ∧
      Sends [resultPage s.cfg 10 .queueFull] t ∧ SameBut [.bus, .outputs] s t)) ∧
  (∀ (s : State) (params : List Byte) (i : Fin 12) (cls : Sys2Proof.Machine.Class) (v : Nat), SlotTakes s →
    s.cfg.fallback = false → standstill s = true → 5 ≤ params.length → (byteAt params 0).toNat = i.val →
    leNat ((params.drop 1).take 4) = v → v ≠ 0xFFFFFFFF → s.cfg.classes[i] = some cls →
    (s.comps.queue.length < 4 → s.comps.nextSeq < max32 → ∃ t, exec (.setIdentity params) s = .next t ∧
      ClosedSlot i cls .serviceIdentity (some v) s t ∧ Sends [resultPage s.cfg 11 .done] t ∧
      SameBut [.chans, .start, .spectra, .comps, .faults, .store, .bus, .outputs] s t) ∧
    (4 ≤ s.comps.queue.length ∨ max32 ≤ s.comps.nextSeq → ∃ t, exec (.setIdentity params) s = .next t ∧
      Sends [resultPage s.cfg 11 .queueFull] t ∧ SameBut [.bus, .outputs] s t)) ∧
  (∀ (s : State) (i : Fin 12) (cls : Sys2Proof.Machine.Class), s.power.state ≠ .unsupplied →
    s.cfg.classes[i] = some cls → closeDeferred s.comps.slots[i] = true →
    (∀ j : Fin 12, j < i → closeDeferred s.comps.slots[j] = false) →
    (s.comps.queue.length = 3 → s.comps.nextSeq < max32 → ∃ t, exec .deferredCloseRetry s = .next t ∧
      ClosedSlot i cls .identityChange s.comps.slots[i].candidate s t ∧
      SameBut [.chans, .start, .spectra, .comps, .faults, .store, .bus, .outputs] s t) ∧
    (4 ≤ s.comps.queue.length ∨ max32 ≤ s.comps.nextSeq → ∃ t, exec .deferredCloseRetry s = .next t ∧
      SameBut [.outputs] s t)) ∧
  (∀ s : State, s.power.state ≠ .unsupplied →
    ∃ (t : State) (at' : Nat → State), exec .deferredCloseRetry s = .next t ∧ at' 0 = s ∧
      SameBut [.outputs] (at' 12) t ∧
      ∀ (i : Fin 12) (cls : Option Sys2Proof.Machine.Class), cls = s.cfg.classes[i] →
        (∀ k, cls = some k → closeDeferred s.comps.slots[i] = true → (at' i.val).comps.queue.length < 4 →
          (at' i.val).comps.nextSeq < max32 →
          ClosedSlot i k .identityChange s.comps.slots[i].candidate (at' i.val) (at' (i.val + 1)) ∧
          SameBut [.chans, .start, .spectra, .comps, .faults, .store, .bus] (at' i.val) (at' (i.val + 1))) ∧
        (cls = none ∨ closeDeferred s.comps.slots[i] = false ∨ 4 ≤ (at' i.val).comps.queue.length ∨
            max32 ≤ (at' i.val).comps.nextSeq →
          at' (i.val + 1) = at' i.val))

/-! ### Service requests -/

/-- The answers that pages carry: one frame a page, its page number and code in byte 0, the block in order behind it
and 0x00 beyond the end of the block; every block has the length Table 12-1 gives, and the fields of every block stand
at the offsets and with the codes of Chapter 12. A stored record of any 256 bytes is answered in 5 to 12 pages, its
channel count held to 1 to 4, and its offset is echoed (assumption log 26); bits 14 and 15 of the fault masks are
echoed from the image (assumption log 40); what an absent identity, an absent tally and an empty capture show is free
(assumption logs 20 and 32) and has no clause. -/
def Obligations.PagesCarryBlock : Prop :=
  (∀ (cfg : RunConfig) (code count dl : Nat) (block : List Byte), code ≤ 15 → count ≤ 16 → 2 ≤ dl →
    block.length ≤ count * (dl - 1) →
    (answerFrames cfg code count dl block).length = count ∧
    (∀ (p : Nat) (f : TxFrame), (answerFrames cfg code count dl block)[p]? = some f →
      f.kind = .response ∧ f.origin = .burst ∧ f.ident = cfg.base + 16 + cfg.station ∧ f.data.length = dl ∧
      (byteAt f.data 0).toNat = 16 * p + code) ∧
    (answerFrames cfg code count dl block).flatMap (fun f => f.data.drop 1) =
      block ++ List.replicate (count * (dl - 1) - block.length) 0) ∧
  (∀ (s : State) (i : Sig), SignalFields s.cap.board[i] (signalBlock s i)) ∧
  (∀ (s : State) (x : Src), SourceFields s x (sourceBlock s x)) ∧
  (∀ (s : State) (i : Fin 12) (cls : Sys2Proof.Machine.Class), ComponentFields s i cls (componentBlock s i cls)) ∧
  (∀ (sc : SpecCfg) (r : Spectrum) (first : Nat), SpectrumFields sc r first (spectrumBlock sc r first)) ∧
  (∀ (d : Nat) (record : List Byte), record.length = 256 →
    5 ≤ ((historyBlock d record).length + 10) / 11 ∧ ((historyBlock d record).length + 10) / 11 ≤ 12 ∧
    byteAt (historyBlock d record) 0 = 0 ∧ byteAt (historyBlock d record) 1 = BitVec.ofNat 8 d ∧
    (historyBlock d record).drop 2 = record.take (entryLength record) ∧
    (∀ n, (byteAt record 7).toNat = n → 1 ≤ n → n ≤ 4 → entryLength record = 22 + 21 * n +
      (if (byteAt record 6).toNat / 16 % 4 = 1 then 24 else if (byteAt record 6).toNat / 16 % 4 = 2 then 16 else 0))) ∧
  (∀ (o : Nat) (word : List Byte), o ≤ 511 → word.length = 4 → (configBlock o word).length = 7 ∧
    byteAt (configBlock o word) 0 = 0 ∧ Field (configBlock o word) 1 (leBytes 2 o) ∧ Field (configBlock o word) 3 word) ∧
  (∀ ch : Channel, ChannelFields ch (channelBlock ch)) ∧
  (∀ s : State, FaultFields s (faultsBlock s))

/-- The reading requests in an IDLE slot answer at once with their blocks; READ HISTORY, READ CONFIG and WRITE CONFIG
wait for the store port with the values they carry. Requests are commands of their own (assumption log 17). -/
def Obligations.ReadAndStoreRequestsTaken : Prop :=
  ∀ (s : State) (params : List Byte), SlotTakes s →
    (∀ i : Sig, 2 ≤ params.length → byteAt params 0 = 0 → (byteAt params 1).toNat = i.val →
      ∃ t, exec (.readSignal params) s = .next t ∧ Sends (answerFrames s.cfg 1 1 16 (signalBlock s i)) t ∧
        FedAsRoomAllows s t ∧ SameBut [.bus, .freeCount, .outputs] s t) ∧
    (∀ x : Src, 2 ≤ params.length → byteAt params 0 = 1 → (byteAt params 1).toNat = x.val →
      ∃ t, exec (.readSignal params) s = .next t ∧ Sends (answerFrames s.cfg 1 1 16 (sourceBlock s x)) t ∧
        FedAsRoomAllows s t ∧ SameBut [.bus, .freeCount, .outputs] s t) ∧
    (∀ c : Fin 24, 1 ≤ params.length → (byteAt params 0).toNat = c.val → s.cfg.channels[c].isSome = true →
      ∃ t, exec (.readChannel params) s = .next t ∧ Sends (answerFrames s.cfg 2 4 12 (channelBlock s.chans[c])) t ∧
        FedAsRoomAllows s t ∧ SameBut [.bus, .freeCount, .outputs] s t) ∧
    (∀ (i : Fin 12) (cls : Sys2Proof.Machine.Class), 1 ≤ params.length → (byteAt params 0).toNat = i.val →
      s.cfg.classes[i] = some cls →
      ∃ t, exec (.readComponent params) s = .next t ∧ Sends (answerFrames s.cfg 3 3 20 (componentBlock s i cls)) t ∧
        FedAsRoomAllows s t ∧ SameBut [.bus, .freeCount, .outputs] s t) ∧
    (∀ (u : Fin 4) (sc : SpecCfg), 2 ≤ params.length → (byteAt params 0).toNat = u.val → s.cfg.spectra[u] = some sc →
      (byteAt params 1).toNat ≤ 56 →
      ∃ t, exec (.readSpectrum params) s = .next t ∧
        Sends (answerFrames s.cfg 4 5 8 (spectrumBlock sc s.spectra[u] (byteAt params 1).toNat)) t ∧
        FedAsRoomAllows s t ∧ SameBut [.bus, .freeCount, .outputs] s t) ∧
    (∃ t, exec (.readFaults params) s = .next t ∧ Sends (answerFrames s.cfg 6 3 16 (faultsBlock s)) t ∧
      FedAsRoomAllows s t ∧ SameBut [.bus, .freeCount, .outputs] s t) ∧
    (1 ≤ params.length → (byteAt params 0).toNat ≤ 31 →
      ∃ t, exec (.readHistory params) s = .next t ∧
        t.bus = { s.bus with slot := .waitingStore (.readHistory (byteAt params 0).toNat) false } ∧
        SameBut [.bus, .outputs] s t) ∧
    (∀ o, o = (byteAt params 0).toNat + 256 * (byteAt params 1).toNat → o ≤ 511 →
      (2 ≤ params.length → ∃ t, exec (.readConfig params) s = .next t ∧
        t.bus = { s.bus with slot := .waitingStore (.readConfig o) false } ∧ SameBut [.bus, .outputs] s t) ∧
      (6 ≤ params.length → s.cfg.fallback = true ∨ standstill s = true →
        ∃ t, exec (.writeConfig params) s = .next t ∧
          t.bus = { s.bus with slot := .waitingStore (.writeConfig o
            [byteAt params 2, byteAt params 3, byteAt params 4, byteAt params 5]) false } ∧
          SameBut [.bus, .outputs] s t))

/-- The commanding requests in an IDLE slot. ACK FAULTS clears the named kinds, keeps every count, empties a capture
of a named kind and raises again each named kind whose cause is present, the first of them in kind order taking an
emptied or empty capture with its present index; PRESET CHANNEL stages; CHECKPOINT NOW raises a normal request; WIPE
HISTORY sets the pending mark, or is answered BUSY while either mark is set. -/
def Obligations.CommandRequestsServed : Prop :=
  ∀ (s : State) (params : List Byte), SlotTakes s →
    (∀ set, 2 ≤ params.length → set = (byteAt params 0).toNat + 256 * (byteAt params 1).toNat → set < 16384 →
      ∃ t, exec (.ackFaults params) s = .next t ∧ Sends [resultPage s.cfg 8 .done] t ∧
        (∀ k : FaultKind, k ≠ .txDrop ∨ s.bus.queue.length ≤ 3 →
          (set / 2 ^ (kindIndex k).val % 2 = 0 →
            statusOf t.faults k = statusOf s.faults k ∧ countOf t k = countOf s k) ∧
          (set / 2 ^ (kindIndex k).val % 2 = 1 → presenceOf s.faults k = none →
            statusOf t.faults k = false ∧ countOf t k = countOf s k) ∧
          (set / 2 ^ (kindIndex k).val % 2 = 1 → presenceOf s.faults k ≠ none →
            statusOf t.faults k = true ∧ countOf t k = min 255 (countOf s k + 1))) ∧
        (∀ c, s.faults.record.capture = some c → set / 2 ^ (kindIndex c.kind).val % 2 = 0 →
          t.faults.record.capture = some c) ∧
        (∀ c, s.faults.record.capture = some c → set / 2 ^ (kindIndex c.kind).val % 2 = 1 →
          (∀ k : FaultKind, set / 2 ^ (kindIndex k).val % 2 = 1 → presenceOf s.faults k = none) →
          t.faults.record.capture = none) ∧
        (∀ (k : FaultKind) (index : Option Nat), set / 2 ^ (kindIndex k).val % 2 = 1 →
          presenceOf s.faults k = some index →
          (∀ j : FaultKind, kindIndex j < kindIndex k → set / 2 ^ (kindIndex j).val % 2 = 1 →
            presenceOf s.faults j = none) →
          (∀ c, s.faults.record.capture = some c → set / 2 ^ (kindIndex c.kind).val % 2 = 1) →
          t.faults.record.capture = some (captureOf s k index)) ∧
        (∀ k : FaultKind, presenceOf t.faults k = presenceOf s.faults k) ∧ t.faults.elapsed = s.faults.elapsed ∧
        t.faults.dueSet = s.faults.dueSet ∧ SameBut [.faults, .bus, .outputs] s t) ∧
    (∀ set, 2 ≤ params.length → set = (byteAt params 0).toNat + 256 * (byteAt params 1).toNat → 16384 ≤ set →
      ∃ t, exec (.ackFaults params) s = .next t ∧ Sends [resultPage s.cfg 8 .badRequest] t ∧
        SameBut [.bus, .outputs] s t) ∧
    (∀ (c : Fin 24) (q : Quantity), s.cfg.fallback = false → standstill s = true → 6 ≤ params.length →
      (byteAt params 0).toNat = c.val → s.cfg.channels[c].isSome = true → byteAt params 1 = quantityCode q →
      ∃ t, exec (.presetChannel params) s = .next t ∧ Sends [resultPage s.cfg 9 .accepted] t ∧
        t.chans[c] = { s.chans[c] with
          staged := some { quantity := q, value := leNat ((params.drop 2).take 4), base := quantityOf q s.chans[c] } } ∧
        (∀ d : Fin 24, d ≠ c → t.chans[d] = s.chans[d]) ∧ t.store = { s.store with normal := true } ∧
        SameBut [.chans, .store, .bus, .outputs] s t) ∧
    (∃ t, exec (.checkpointNow params) s = .next t ∧ Sends [resultPage s.cfg 12 .accepted] t ∧
      t.store = { s.store with normal := true } ∧ SameBut [.store, .bus, .outputs] s t) ∧
    (s.cfg.fallback = false → s.store.wipePending = false → s.store.wipeRunning = false →
      ∃ t, exec (.wipeHistory params) s = .next t ∧ Sends [resultPage s.cfg 13 .accepted] t ∧
        t.store = { s.store with wipePending := true } ∧ SameBut [.store, .bus, .outputs] s t) ∧
    (s.cfg.fallback = false → s.store.wipePending = true ∨ s.store.wipeRunning = true →
      ∃ t, exec (.wipeHistory params) s = .next t ∧ Sends [resultPage s.cfg 13 .busy] t ∧
        SameBut [.bus, .outputs] s t)

/-- Requests that are not served: an unknown code or no data, too few parameters, an unknown selector, FALLBACK,
REFUSED_MOTION and NO_SUCH, each one page with the result; and BUSY, while the slot is not IDLE, which leaves the slot
and its burst alone. READ SPECTRUM of a unit above 3 as one of NO_SUCH is the model's choice (assumption log 44). -/
def Obligations.RequestsRefused : Prop :=
  (∀ (s : State) (data : List Byte), SlotTakes s → ¬ (1 ≤ codeOf data ∧ codeOf data ≤ 14) →
    ∃ t, exec (.unknownRequestCode data) s = .next t ∧ FedAsRoomAllows s t ∧
      Sends [{ kind := .response, origin := .burst, ident := s.cfg.base + 16 + s.cfg.station,
               data := [BitVec.ofNat 8 (codeOf data % 16), 4] }] t ∧
      SameBut [.bus, .outputs] s t) ∧
  (∀ (s : State) (data : List Byte), linkRunning s = true → s.bus.slot ≠ .idle →
    ∃ t, exec (requestCommand data) s = .next t ∧
      t.bus.slot = s.bus.slot ∧ t.bus.burst = s.bus.burst ∧ t.bus.fed = s.bus.fed ∧ t.bus.sent = s.bus.sent ∧
      (s.bus.queue.length < 8 → t.faults = s.faults ∧ t.bus.queue.length = s.bus.queue.length + 1 ∧
        { kind := .response, origin := .busy, ident := s.cfg.base + 16 + s.cfg.station,
          data := [BitVec.ofNat 8 (codeOf data % 16), 2] } ∈ t.bus.queue) ∧
      SameBut [.faults, .bus, .outputs] s t) ∧
  (∀ (s : State) (data : List Byte) (code : Nat), SlotTakes s → codeOf data = code → 1 ≤ code → code ≤ 14 →
    (data.length < 1 + paramLength code → ∃ t, exec (requestCommand data) s = .next t ∧
      Sends [resultPage s.cfg code .badRequest] t ∧ SameBut [.bus, .outputs] s t) ∧
    (1 + paramLength code ≤ data.length →
      (s.cfg.fallback = true → code = 9 ∨ code = 10 ∨ code = 11 ∨ code = 13 →
        ∃ t, exec (requestCommand data) s = .next t ∧ Sends [resultPage s.cfg code .fallback] t ∧
          SameBut [.bus, .outputs] s t) ∧
      (s.cfg.fallback = false → code = 9 ∨ code = 10 ∨ code = 11 ∨ code = 14 →
        ¬ (usable s.cap.board[sRoadSpeed].state = true ∧ s.cap.board[sRoadSpeed].value = 0) →
        ∃ t, exec (requestCommand data) s = .next t ∧ Sends [resultPage s.cfg code .refusedMotion] t ∧
          SameBut [.bus, .outputs] s t) ∧
      (code = 2 → (∀ c : Fin 24, (byteAt data 1).toNat = c.val → s.cfg.channels[c] = none) →
        ∃ t, exec (requestCommand data) s = .next t ∧ Sends [resultPage s.cfg 2 .noSuch] t ∧
          SameBut [.bus, .outputs] s t) ∧
      (code = 3 → (∀ i : Fin 12, (byteAt data 1).toNat = i.val → s.cfg.classes[i] = none) →
        ∃ t, exec (requestCommand data) s = .next t ∧ Sends [resultPage s.cfg 3 .noSuch] t ∧
          SameBut [.bus, .outputs] s t) ∧
      (code = 1 → byteAt data 1 = 0 ∧ 13 < (byteAt data 2).toNat ∨ byteAt data 1 = 1 ∧ 26 < (byteAt data 2).toNat →
        ∃ t, exec (requestCommand data) s = .next t ∧ Sends [resultPage s.cfg 1 .noSuch] t ∧
          SameBut [.bus, .outputs] s t) ∧
      (code = 1 → 1 < (byteAt data 1).toNat → ∃ t, exec (requestCommand data) s = .next t ∧
        Sends [resultPage s.cfg 1 .badRequest] t ∧ SameBut [.bus, .outputs] s t) ∧
      (code = 4 → (∀ u : Fin 4, (byteAt data 1).toNat = u.val → s.cfg.spectra[u] = none) ∨ 56 < (byteAt data 2).toNat →
        ∃ t, exec (requestCommand data) s = .next t ∧ Sends [resultPage s.cfg 4 .noSuch] t ∧
          SameBut [.bus, .outputs] s t) ∧
      (code = 5 → 31 < (byteAt data 1).toNat → ∃ t, exec (requestCommand data) s = .next t ∧
        Sends [resultPage s.cfg 5 .noSuch] t ∧ SameBut [.bus, .outputs] s t) ∧
      (code = 7 → 511 < (byteAt data 1).toNat + 256 * (byteAt data 2).toNat →
        ∃ t, exec (requestCommand data) s = .next t ∧ Sends [resultPage s.cfg 7 .noSuch] t ∧
          SameBut [.bus, .outputs] s t) ∧
      (s.cfg.fallback = false → usable s.cap.board[sRoadSpeed].state = true → s.cap.board[sRoadSpeed].value = 0 →
        (code = 9 → (∀ c : Fin 24, (byteAt data 1).toNat = c.val → s.cfg.channels[c] = none) →
          ∃ t, exec (requestCommand data) s = .next t ∧ Sends [resultPage s.cfg 9 .noSuch] t ∧
            SameBut [.bus, .outputs] s t) ∧
        (code = 9 → (∃ c : Fin 24, (byteAt data 1).toNat = c.val ∧ s.cfg.channels[c] ≠ none) →
          (byteAt data 2 = 0 ∨ 4 < (byteAt data 2).toNat) →
          ∃ t, exec (requestCommand data) s = .next t ∧ Sends [resultPage s.cfg 9 .badRequest] t ∧
            SameBut [.bus, .outputs] s t) ∧
        (code = 10 ∨ code = 11 → (∀ i : Fin 12, (byteAt data 1).toNat = i.val → s.cfg.classes[i] = none) →
          ∃ t, exec (requestCommand data) s = .next t ∧ Sends [resultPage s.cfg code .noSuch] t ∧
            SameBut [.bus, .outputs] s t) ∧
        (code = 11 → (∃ i : Fin 12, (byteAt data 1).toNat = i.val ∧ s.cfg.classes[i] ≠ none) →
          (∀ k, 2 ≤ k → k ≤ 5 → byteAt data k = 0xFF) →
          ∃ t, exec (requestCommand data) s = .next t ∧ Sends [resultPage s.cfg 11 .badRequest] t ∧
            SameBut [.bus, .outputs] s t)) ∧
      (s.cfg.fallback = true ∨ (usable s.cap.board[sRoadSpeed].state = true ∧ s.cap.board[sRoadSpeed].value = 0) →
        code = 14 → 511 < (byteAt data 1).toNat + 256 * (byteAt data 2).toNat →
        ∃ t, exec (requestCommand data) s = .next t ∧ Sends [resultPage s.cfg 14 .noSuch] t ∧
          SameBut [.bus, .outputs] s t)))
end

