-- ==== Sys2Proof/Laws/State.lean ====
section
/-! SUPPORT. What each block update leaves in each field. -/

namespace Sys2Proof.Machine

@[simp] theorem State.setCfg_cfg (s : State) (x : RunConfig) : (s.setCfg x).cfg = x := rfl
@[simp] theorem State.setCfg_lines (s : State) (x : RunConfig) : (s.setCfg x).lines = s.lines := rfl
@[simp] theorem State.setCfg_power (s : State) (x : RunConfig) : (s.setCfg x).power = s.power := rfl
@[simp] theorem State.setCfg_cap (s : State) (x : RunConfig) : (s.setCfg x).cap = s.cap := rfl
@[simp] theorem State.setCfg_pulseA (s : State) (x : RunConfig) : (s.setCfg x).pulseA = s.pulseA := rfl
@[simp] theorem State.setCfg_pulseB (s : State) (x : RunConfig) : (s.setCfg x).pulseB = s.pulseB := rfl
@[simp] theorem State.setCfg_chans (s : State) (x : RunConfig) : (s.setCfg x).chans = s.chans := rfl
@[simp] theorem State.setCfg_start (s : State) (x : RunConfig) : (s.setCfg x).start = s.start := rfl
@[simp] theorem State.setCfg_spectra (s : State) (x : RunConfig) : (s.setCfg x).spectra = s.spectra := rfl
@[simp] theorem State.setCfg_comps (s : State) (x : RunConfig) : (s.setCfg x).comps = s.comps := rfl
@[simp] theorem State.setCfg_faults (s : State) (x : RunConfig) : (s.setCfg x).faults = s.faults := rfl
@[simp] theorem State.setCfg_store (s : State) (x : RunConfig) : (s.setCfg x).store = s.store := rfl
@[simp] theorem State.setCfg_nvm (s : State) (x : RunConfig) : (s.setCfg x).nvm = s.nvm := rfl
@[simp] theorem State.setCfg_bus (s : State) (x : RunConfig) : (s.setCfg x).bus = s.bus := rfl
@[simp] theorem State.setCfg_freeCount (s : State) (x : RunConfig) : (s.setCfg x).freeCount = s.freeCount := rfl
@[simp] theorem State.setCfg_pending (s : State) (x : RunConfig) : (s.setCfg x).pending = s.pending := rfl

@[simp] theorem State.setLines_cfg (s : State) (x : Lines) : (s.setLines x).cfg = s.cfg := rfl
@[simp] theorem State.setLines_lines (s : State) (x : Lines) : (s.setLines x).lines = x := rfl
@[simp] theorem State.setLines_power (s : State) (x : Lines) : (s.setLines x).power = s.power := rfl
@[simp] theorem State.setLines_cap (s : State) (x : Lines) : (s.setLines x).cap = s.cap := rfl
@[simp] theorem State.setLines_pulseA (s : State) (x : Lines) : (s.setLines x).pulseA = s.pulseA := rfl
@[simp] theorem State.setLines_pulseB (s : State) (x : Lines) : (s.setLines x).pulseB = s.pulseB := rfl
@[simp] theorem State.setLines_chans (s : State) (x : Lines) : (s.setLines x).chans = s.chans := rfl
@[simp] theorem State.setLines_start (s : State) (x : Lines) : (s.setLines x).start = s.start := rfl
@[simp] theorem State.setLines_spectra (s : State) (x : Lines) : (s.setLines x).spectra = s.spectra := rfl
@[simp] theorem State.setLines_comps (s : State) (x : Lines) : (s.setLines x).comps = s.comps := rfl
@[simp] theorem State.setLines_faults (s : State) (x : Lines) : (s.setLines x).faults = s.faults := rfl
@[simp] theorem State.setLines_store (s : State) (x : Lines) : (s.setLines x).store = s.store := rfl
@[simp] theorem State.setLines_nvm (s : State) (x : Lines) : (s.setLines x).nvm = s.nvm := rfl
@[simp] theorem State.setLines_bus (s : State) (x : Lines) : (s.setLines x).bus = s.bus := rfl
@[simp] theorem State.setLines_freeCount (s : State) (x : Lines) : (s.setLines x).freeCount = s.freeCount := rfl
@[simp] theorem State.setLines_pending (s : State) (x : Lines) : (s.setLines x).pending = s.pending := rfl

@[simp] theorem State.setPower_cfg (s : State) (x : Power) : (s.setPower x).cfg = s.cfg := rfl
@[simp] theorem State.setPower_lines (s : State) (x : Power) : (s.setPower x).lines = s.lines := rfl
@[simp] theorem State.setPower_power (s : State) (x : Power) : (s.setPower x).power = x := rfl
@[simp] theorem State.setPower_cap (s : State) (x : Power) : (s.setPower x).cap = s.cap := rfl
@[simp] theorem State.setPower_pulseA (s : State) (x : Power) : (s.setPower x).pulseA = s.pulseA := rfl
@[simp] theorem State.setPower_pulseB (s : State) (x : Power) : (s.setPower x).pulseB = s.pulseB := rfl
@[simp] theorem State.setPower_chans (s : State) (x : Power) : (s.setPower x).chans = s.chans := rfl
@[simp] theorem State.setPower_start (s : State) (x : Power) : (s.setPower x).start = s.start := rfl
@[simp] theorem State.setPower_spectra (s : State) (x : Power) : (s.setPower x).spectra = s.spectra := rfl
@[simp] theorem State.setPower_comps (s : State) (x : Power) : (s.setPower x).comps = s.comps := rfl
@[simp] theorem State.setPower_faults (s : State) (x : Power) : (s.setPower x).faults = s.faults := rfl
@[simp] theorem State.setPower_store (s : State) (x : Power) : (s.setPower x).store = s.store := rfl
@[simp] theorem State.setPower_nvm (s : State) (x : Power) : (s.setPower x).nvm = s.nvm := rfl
@[simp] theorem State.setPower_bus (s : State) (x : Power) : (s.setPower x).bus = s.bus := rfl
@[simp] theorem State.setPower_freeCount (s : State) (x : Power) : (s.setPower x).freeCount = s.freeCount := rfl
@[simp] theorem State.setPower_pending (s : State) (x : Power) : (s.setPower x).pending = s.pending := rfl

@[simp] theorem State.setCap_cfg (s : State) (x : Capture) : (s.setCap x).cfg = s.cfg := rfl
@[simp] theorem State.setCap_lines (s : State) (x : Capture) : (s.setCap x).lines = s.lines := rfl
@[simp] theorem State.setCap_power (s : State) (x : Capture) : (s.setCap x).power = s.power := rfl
@[simp] theorem State.setCap_cap (s : State) (x : Capture) : (s.setCap x).cap = x := rfl
@[simp] theorem State.setCap_pulseA (s : State) (x : Capture) : (s.setCap x).pulseA = s.pulseA := rfl
@[simp] theorem State.setCap_pulseB (s : State) (x : Capture) : (s.setCap x).pulseB = s.pulseB := rfl
@[simp] theorem State.setCap_chans (s : State) (x : Capture) : (s.setCap x).chans = s.chans := rfl
@[simp] theorem State.setCap_start (s : State) (x : Capture) : (s.setCap x).start = s.start := rfl
@[simp] theorem State.setCap_spectra (s : State) (x : Capture) : (s.setCap x).spectra = s.spectra := rfl
@[simp] theorem State.setCap_comps (s : State) (x : Capture) : (s.setCap x).comps = s.comps := rfl
@[simp] theorem State.setCap_faults (s : State) (x : Capture) : (s.setCap x).faults = s.faults := rfl
@[simp] theorem State.setCap_store (s : State) (x : Capture) : (s.setCap x).store = s.store := rfl
@[simp] theorem State.setCap_nvm (s : State) (x : Capture) : (s.setCap x).nvm = s.nvm := rfl
@[simp] theorem State.setCap_bus (s : State) (x : Capture) : (s.setCap x).bus = s.bus := rfl
@[simp] theorem State.setCap_freeCount (s : State) (x : Capture) : (s.setCap x).freeCount = s.freeCount := rfl
@[simp] theorem State.setCap_pending (s : State) (x : Capture) : (s.setCap x).pending = s.pending := rfl

@[simp] theorem State.setPulseA_cfg (s : State) (x : PulseUnit) : (s.setPulseA x).cfg = s.cfg := rfl
@[simp] theorem State.setPulseA_lines (s : State) (x : PulseUnit) : (s.setPulseA x).lines = s.lines := rfl
@[simp] theorem State.setPulseA_power (s : State) (x : PulseUnit) : (s.setPulseA x).power = s.power := rfl
@[simp] theorem State.setPulseA_cap (s : State) (x : PulseUnit) : (s.setPulseA x).cap = s.cap := rfl
@[simp] theorem State.setPulseA_pulseA (s : State) (x : PulseUnit) : (s.setPulseA x).pulseA = x := rfl
@[simp] theorem State.setPulseA_pulseB (s : State) (x : PulseUnit) : (s.setPulseA x).pulseB = s.pulseB := rfl
@[simp] theorem State.setPulseA_chans (s : State) (x : PulseUnit) : (s.setPulseA x).chans = s.chans := rfl
@[simp] theorem State.setPulseA_start (s : State) (x : PulseUnit) : (s.setPulseA x).start = s.start := rfl
@[simp] theorem State.setPulseA_spectra (s : State) (x : PulseUnit) : (s.setPulseA x).spectra = s.spectra := rfl
@[simp] theorem State.setPulseA_comps (s : State) (x : PulseUnit) : (s.setPulseA x).comps = s.comps := rfl
@[simp] theorem State.setPulseA_faults (s : State) (x : PulseUnit) : (s.setPulseA x).faults = s.faults := rfl
@[simp] theorem State.setPulseA_store (s : State) (x : PulseUnit) : (s.setPulseA x).store = s.store := rfl
@[simp] theorem State.setPulseA_nvm (s : State) (x : PulseUnit) : (s.setPulseA x).nvm = s.nvm := rfl
@[simp] theorem State.setPulseA_bus (s : State) (x : PulseUnit) : (s.setPulseA x).bus = s.bus := rfl
@[simp] theorem State.setPulseA_freeCount (s : State) (x : PulseUnit) : (s.setPulseA x).freeCount = s.freeCount := rfl
@[simp] theorem State.setPulseA_pending (s : State) (x : PulseUnit) : (s.setPulseA x).pending = s.pending := rfl

@[simp] theorem State.setPulseB_cfg (s : State) (x : PulseUnit) : (s.setPulseB x).cfg = s.cfg := rfl
@[simp] theorem State.setPulseB_lines (s : State) (x : PulseUnit) : (s.setPulseB x).lines = s.lines := rfl
@[simp] theorem State.setPulseB_power (s : State) (x : PulseUnit) : (s.setPulseB x).power = s.power := rfl
@[simp] theorem State.setPulseB_cap (s : State) (x : PulseUnit) : (s.setPulseB x).cap = s.cap := rfl
@[simp] theorem State.setPulseB_pulseA (s : State) (x : PulseUnit) : (s.setPulseB x).pulseA = s.pulseA := rfl
@[simp] theorem State.setPulseB_pulseB (s : State) (x : PulseUnit) : (s.setPulseB x).pulseB = x := rfl
@[simp] theorem State.setPulseB_chans (s : State) (x : PulseUnit) : (s.setPulseB x).chans = s.chans := rfl
@[simp] theorem State.setPulseB_start (s : State) (x : PulseUnit) : (s.setPulseB x).start = s.start := rfl
@[simp] theorem State.setPulseB_spectra (s : State) (x : PulseUnit) : (s.setPulseB x).spectra = s.spectra := rfl
@[simp] theorem State.setPulseB_comps (s : State) (x : PulseUnit) : (s.setPulseB x).comps = s.comps := rfl
@[simp] theorem State.setPulseB_faults (s : State) (x : PulseUnit) : (s.setPulseB x).faults = s.faults := rfl
@[simp] theorem State.setPulseB_store (s : State) (x : PulseUnit) : (s.setPulseB x).store = s.store := rfl
@[simp] theorem State.setPulseB_nvm (s : State) (x : PulseUnit) : (s.setPulseB x).nvm = s.nvm := rfl
@[simp] theorem State.setPulseB_bus (s : State) (x : PulseUnit) : (s.setPulseB x).bus = s.bus := rfl
@[simp] theorem State.setPulseB_freeCount (s : State) (x : PulseUnit) : (s.setPulseB x).freeCount = s.freeCount := rfl
@[simp] theorem State.setPulseB_pending (s : State) (x : PulseUnit) : (s.setPulseB x).pending = s.pending := rfl

@[simp] theorem State.setChans_cfg (s : State) (x : Vector Channel 24) : (s.setChans x).cfg = s.cfg := rfl
@[simp] theorem State.setChans_lines (s : State) (x : Vector Channel 24) : (s.setChans x).lines = s.lines := rfl
@[simp] theorem State.setChans_power (s : State) (x : Vector Channel 24) : (s.setChans x).power = s.power := rfl
@[simp] theorem State.setChans_cap (s : State) (x : Vector Channel 24) : (s.setChans x).cap = s.cap := rfl
@[simp] theorem State.setChans_pulseA (s : State) (x : Vector Channel 24) : (s.setChans x).pulseA = s.pulseA := rfl
@[simp] theorem State.setChans_pulseB (s : State) (x : Vector Channel 24) : (s.setChans x).pulseB = s.pulseB := rfl
@[simp] theorem State.setChans_chans (s : State) (x : Vector Channel 24) : (s.setChans x).chans = x := rfl
@[simp] theorem State.setChans_start (s : State) (x : Vector Channel 24) : (s.setChans x).start = s.start := rfl
@[simp] theorem State.setChans_spectra (s : State) (x : Vector Channel 24) : (s.setChans x).spectra = s.spectra := rfl
@[simp] theorem State.setChans_comps (s : State) (x : Vector Channel 24) : (s.setChans x).comps = s.comps := rfl
@[simp] theorem State.setChans_faults (s : State) (x : Vector Channel 24) : (s.setChans x).faults = s.faults := rfl
@[simp] theorem State.setChans_store (s : State) (x : Vector Channel 24) : (s.setChans x).store = s.store := rfl
@[simp] theorem State.setChans_nvm (s : State) (x : Vector Channel 24) : (s.setChans x).nvm = s.nvm := rfl
@[simp] theorem State.setChans_bus (s : State) (x : Vector Channel 24) : (s.setChans x).bus = s.bus := rfl
@[simp] theorem State.setChans_freeCount (s : State) (x : Vector Channel 24) : (s.setChans x).freeCount = s.freeCount := rfl
@[simp] theorem State.setChans_pending (s : State) (x : Vector Channel 24) : (s.setChans x).pending = s.pending := rfl

@[simp] theorem State.setStart_cfg (s : State) (x : StartUnit) : (s.setStart x).cfg = s.cfg := rfl
@[simp] theorem State.setStart_lines (s : State) (x : StartUnit) : (s.setStart x).lines = s.lines := rfl
@[simp] theorem State.setStart_power (s : State) (x : StartUnit) : (s.setStart x).power = s.power := rfl
@[simp] theorem State.setStart_cap (s : State) (x : StartUnit) : (s.setStart x).cap = s.cap := rfl
@[simp] theorem State.setStart_pulseA (s : State) (x : StartUnit) : (s.setStart x).pulseA = s.pulseA := rfl
@[simp] theorem State.setStart_pulseB (s : State) (x : StartUnit) : (s.setStart x).pulseB = s.pulseB := rfl
@[simp] theorem State.setStart_chans (s : State) (x : StartUnit) : (s.setStart x).chans = s.chans := rfl
@[simp] theorem State.setStart_start (s : State) (x : StartUnit) : (s.setStart x).start = x := rfl
@[simp] theorem State.setStart_spectra (s : State) (x : StartUnit) : (s.setStart x).spectra = s.spectra := rfl
@[simp] theorem State.setStart_comps (s : State) (x : StartUnit) : (s.setStart x).comps = s.comps := rfl
@[simp] theorem State.setStart_faults (s : State) (x : StartUnit) : (s.setStart x).faults = s.faults := rfl
@[simp] theorem State.setStart_store (s : State) (x : StartUnit) : (s.setStart x).store = s.store := rfl
@[simp] theorem State.setStart_nvm (s : State) (x : StartUnit) : (s.setStart x).nvm = s.nvm := rfl
@[simp] theorem State.setStart_bus (s : State) (x : StartUnit) : (s.setStart x).bus = s.bus := rfl
@[simp] theorem State.setStart_freeCount (s : State) (x : StartUnit) : (s.setStart x).freeCount = s.freeCount := rfl
@[simp] theorem State.setStart_pending (s : State) (x : StartUnit) : (s.setStart x).pending = s.pending := rfl

@[simp] theorem State.setSpectra_cfg (s : State) (x : Vector Spectrum 4) : (s.setSpectra x).cfg = s.cfg := rfl
@[simp] theorem State.setSpectra_lines (s : State) (x : Vector Spectrum 4) : (s.setSpectra x).lines = s.lines := rfl
@[simp] theorem State.setSpectra_power (s : State) (x : Vector Spectrum 4) : (s.setSpectra x).power = s.power := rfl
@[simp] theorem State.setSpectra_cap (s : State) (x : Vector Spectrum 4) : (s.setSpectra x).cap = s.cap := rfl
@[simp] theorem State.setSpectra_pulseA (s : State) (x : Vector Spectrum 4) : (s.setSpectra x).pulseA = s.pulseA := rfl
@[simp] theorem State.setSpectra_pulseB (s : State) (x : Vector Spectrum 4) : (s.setSpectra x).pulseB = s.pulseB := rfl
@[simp] theorem State.setSpectra_chans (s : State) (x : Vector Spectrum 4) : (s.setSpectra x).chans = s.chans := rfl
@[simp] theorem State.setSpectra_start (s : State) (x : Vector Spectrum 4) : (s.setSpectra x).start = s.start := rfl
@[simp] theorem State.setSpectra_spectra (s : State) (x : Vector Spectrum 4) : (s.setSpectra x).spectra = x := rfl
@[simp] theorem State.setSpectra_comps (s : State) (x : Vector Spectrum 4) : (s.setSpectra x).comps = s.comps := rfl
@[simp] theorem State.setSpectra_faults (s : State) (x : Vector Spectrum 4) : (s.setSpectra x).faults = s.faults := rfl
@[simp] theorem State.setSpectra_store (s : State) (x : Vector Spectrum 4) : (s.setSpectra x).store = s.store := rfl
@[simp] theorem State.setSpectra_nvm (s : State) (x : Vector Spectrum 4) : (s.setSpectra x).nvm = s.nvm := rfl
@[simp] theorem State.setSpectra_bus (s : State) (x : Vector Spectrum 4) : (s.setSpectra x).bus = s.bus := rfl
@[simp] theorem State.setSpectra_freeCount (s : State) (x : Vector Spectrum 4) : (s.setSpectra x).freeCount = s.freeCount := rfl
@[simp] theorem State.setSpectra_pending (s : State) (x : Vector Spectrum 4) : (s.setSpectra x).pending = s.pending := rfl

@[simp] theorem State.setComps_cfg (s : State) (x : CompTable) : (s.setComps x).cfg = s.cfg := rfl
@[simp] theorem State.setComps_lines (s : State) (x : CompTable) : (s.setComps x).lines = s.lines := rfl
@[simp] theorem State.setComps_power (s : State) (x : CompTable) : (s.setComps x).power = s.power := rfl
@[simp] theorem State.setComps_cap (s : State) (x : CompTable) : (s.setComps x).cap = s.cap := rfl
@[simp] theorem State.setComps_pulseA (s : State) (x : CompTable) : (s.setComps x).pulseA = s.pulseA := rfl
@[simp] theorem State.setComps_pulseB (s : State) (x : CompTable) : (s.setComps x).pulseB = s.pulseB := rfl
@[simp] theorem State.setComps_chans (s : State) (x : CompTable) : (s.setComps x).chans = s.chans := rfl
@[simp] theorem State.setComps_start (s : State) (x : CompTable) : (s.setComps x).start = s.start := rfl
@[simp] theorem State.setComps_spectra (s : State) (x : CompTable) : (s.setComps x).spectra = s.spectra := rfl
@[simp] theorem State.setComps_comps (s : State) (x : CompTable) : (s.setComps x).comps = x := rfl
@[simp] theorem State.setComps_faults (s : State) (x : CompTable) : (s.setComps x).faults = s.faults := rfl
@[simp] theorem State.setComps_store (s : State) (x : CompTable) : (s.setComps x).store = s.store := rfl
@[simp] theorem State.setComps_nvm (s : State) (x : CompTable) : (s.setComps x).nvm = s.nvm := rfl
@[simp] theorem State.setComps_bus (s : State) (x : CompTable) : (s.setComps x).bus = s.bus := rfl
@[simp] theorem State.setComps_freeCount (s : State) (x : CompTable) : (s.setComps x).freeCount = s.freeCount := rfl
@[simp] theorem State.setComps_pending (s : State) (x : CompTable) : (s.setComps x).pending = s.pending := rfl

@[simp] theorem State.setFaults_cfg (s : State) (x : FaultUnit) : (s.setFaults x).cfg = s.cfg := rfl
@[simp] theorem State.setFaults_lines (s : State) (x : FaultUnit) : (s.setFaults x).lines = s.lines := rfl
@[simp] theorem State.setFaults_power (s : State) (x : FaultUnit) : (s.setFaults x).power = s.power := rfl
@[simp] theorem State.setFaults_cap (s : State) (x : FaultUnit) : (s.setFaults x).cap = s.cap := rfl
@[simp] theorem State.setFaults_pulseA (s : State) (x : FaultUnit) : (s.setFaults x).pulseA = s.pulseA := rfl
@[simp] theorem State.setFaults_pulseB (s : State) (x : FaultUnit) : (s.setFaults x).pulseB = s.pulseB := rfl
@[simp] theorem State.setFaults_chans (s : State) (x : FaultUnit) : (s.setFaults x).chans = s.chans := rfl
@[simp] theorem State.setFaults_start (s : State) (x : FaultUnit) : (s.setFaults x).start = s.start := rfl
@[simp] theorem State.setFaults_spectra (s : State) (x : FaultUnit) : (s.setFaults x).spectra = s.spectra := rfl
@[simp] theorem State.setFaults_comps (s : State) (x : FaultUnit) : (s.setFaults x).comps = s.comps := rfl
@[simp] theorem State.setFaults_faults (s : State) (x : FaultUnit) : (s.setFaults x).faults = x := rfl
@[simp] theorem State.setFaults_store (s : State) (x : FaultUnit) : (s.setFaults x).store = s.store := rfl
@[simp] theorem State.setFaults_nvm (s : State) (x : FaultUnit) : (s.setFaults x).nvm = s.nvm := rfl
@[simp] theorem State.setFaults_bus (s : State) (x : FaultUnit) : (s.setFaults x).bus = s.bus := rfl
@[simp] theorem State.setFaults_freeCount (s : State) (x : FaultUnit) : (s.setFaults x).freeCount = s.freeCount := rfl
@[simp] theorem State.setFaults_pending (s : State) (x : FaultUnit) : (s.setFaults x).pending = s.pending := rfl

@[simp] theorem State.setStore_cfg (s : State) (x : StoreCtl) : (s.setStore x).cfg = s.cfg := rfl
@[simp] theorem State.setStore_lines (s : State) (x : StoreCtl) : (s.setStore x).lines = s.lines := rfl
@[simp] theorem State.setStore_power (s : State) (x : StoreCtl) : (s.setStore x).power = s.power := rfl
@[simp] theorem State.setStore_cap (s : State) (x : StoreCtl) : (s.setStore x).cap = s.cap := rfl
@[simp] theorem State.setStore_pulseA (s : State) (x : StoreCtl) : (s.setStore x).pulseA = s.pulseA := rfl
@[simp] theorem State.setStore_pulseB (s : State) (x : StoreCtl) : (s.setStore x).pulseB = s.pulseB := rfl
@[simp] theorem State.setStore_chans (s : State) (x : StoreCtl) : (s.setStore x).chans = s.chans := rfl
@[simp] theorem State.setStore_start (s : State) (x : StoreCtl) : (s.setStore x).start = s.start := rfl
@[simp] theorem State.setStore_spectra (s : State) (x : StoreCtl) : (s.setStore x).spectra = s.spectra := rfl
@[simp] theorem State.setStore_comps (s : State) (x : StoreCtl) : (s.setStore x).comps = s.comps := rfl
@[simp] theorem State.setStore_faults (s : State) (x : StoreCtl) : (s.setStore x).faults = s.faults := rfl
@[simp] theorem State.setStore_store (s : State) (x : StoreCtl) : (s.setStore x).store = x := rfl
@[simp] theorem State.setStore_nvm (s : State) (x : StoreCtl) : (s.setStore x).nvm = s.nvm := rfl
@[simp] theorem State.setStore_bus (s : State) (x : StoreCtl) : (s.setStore x).bus = s.bus := rfl
@[simp] theorem State.setStore_freeCount (s : State) (x : StoreCtl) : (s.setStore x).freeCount = s.freeCount := rfl
@[simp] theorem State.setStore_pending (s : State) (x : StoreCtl) : (s.setStore x).pending = s.pending := rfl

@[simp] theorem State.setNvm_cfg (s : State) (x : List Host.Cell) : (s.setNvm x).cfg = s.cfg := rfl
@[simp] theorem State.setNvm_lines (s : State) (x : List Host.Cell) : (s.setNvm x).lines = s.lines := rfl
@[simp] theorem State.setNvm_power (s : State) (x : List Host.Cell) : (s.setNvm x).power = s.power := rfl
@[simp] theorem State.setNvm_cap (s : State) (x : List Host.Cell) : (s.setNvm x).cap = s.cap := rfl
@[simp] theorem State.setNvm_pulseA (s : State) (x : List Host.Cell) : (s.setNvm x).pulseA = s.pulseA := rfl
@[simp] theorem State.setNvm_pulseB (s : State) (x : List Host.Cell) : (s.setNvm x).pulseB = s.pulseB := rfl
@[simp] theorem State.setNvm_chans (s : State) (x : List Host.Cell) : (s.setNvm x).chans = s.chans := rfl
@[simp] theorem State.setNvm_start (s : State) (x : List Host.Cell) : (s.setNvm x).start = s.start := rfl
@[simp] theorem State.setNvm_spectra (s : State) (x : List Host.Cell) : (s.setNvm x).spectra = s.spectra := rfl
@[simp] theorem State.setNvm_comps (s : State) (x : List Host.Cell) : (s.setNvm x).comps = s.comps := rfl
@[simp] theorem State.setNvm_faults (s : State) (x : List Host.Cell) : (s.setNvm x).faults = s.faults := rfl
@[simp] theorem State.setNvm_store (s : State) (x : List Host.Cell) : (s.setNvm x).store = s.store := rfl
@[simp] theorem State.setNvm_nvm (s : State) (x : List Host.Cell) : (s.setNvm x).nvm = x := rfl
@[simp] theorem State.setNvm_bus (s : State) (x : List Host.Cell) : (s.setNvm x).bus = s.bus := rfl
@[simp] theorem State.setNvm_freeCount (s : State) (x : List Host.Cell) : (s.setNvm x).freeCount = s.freeCount := rfl
@[simp] theorem State.setNvm_pending (s : State) (x : List Host.Cell) : (s.setNvm x).pending = s.pending := rfl

@[simp] theorem State.setBus_cfg (s : State) (x : Bus) : (s.setBus x).cfg = s.cfg := rfl
@[simp] theorem State.setBus_lines (s : State) (x : Bus) : (s.setBus x).lines = s.lines := rfl
@[simp] theorem State.setBus_power (s : State) (x : Bus) : (s.setBus x).power = s.power := rfl
@[simp] theorem State.setBus_cap (s : State) (x : Bus) : (s.setBus x).cap = s.cap := rfl
@[simp] theorem State.setBus_pulseA (s : State) (x : Bus) : (s.setBus x).pulseA = s.pulseA := rfl
@[simp] theorem State.setBus_pulseB (s : State) (x : Bus) : (s.setBus x).pulseB = s.pulseB := rfl
@[simp] theorem State.setBus_chans (s : State) (x : Bus) : (s.setBus x).chans = s.chans := rfl
@[simp] theorem State.setBus_start (s : State) (x : Bus) : (s.setBus x).start = s.start := rfl
@[simp] theorem State.setBus_spectra (s : State) (x : Bus) : (s.setBus x).spectra = s.spectra := rfl
@[simp] theorem State.setBus_comps (s : State) (x : Bus) : (s.setBus x).comps = s.comps := rfl
@[simp] theorem State.setBus_faults (s : State) (x : Bus) : (s.setBus x).faults = s.faults := rfl
@[simp] theorem State.setBus_store (s : State) (x : Bus) : (s.setBus x).store = s.store := rfl
@[simp] theorem State.setBus_nvm (s : State) (x : Bus) : (s.setBus x).nvm = s.nvm := rfl
@[simp] theorem State.setBus_bus (s : State) (x : Bus) : (s.setBus x).bus = x := rfl
@[simp] theorem State.setBus_freeCount (s : State) (x : Bus) : (s.setBus x).freeCount = s.freeCount := rfl
@[simp] theorem State.setBus_pending (s : State) (x : Bus) : (s.setBus x).pending = s.pending := rfl

@[simp] theorem State.setFreeCount_cfg (s : State) (x : Nat) : (s.setFreeCount x).cfg = s.cfg := rfl
@[simp] theorem State.setFreeCount_lines (s : State) (x : Nat) : (s.setFreeCount x).lines = s.lines := rfl
@[simp] theorem State.setFreeCount_power (s : State) (x : Nat) : (s.setFreeCount x).power = s.power := rfl
@[simp] theorem State.setFreeCount_cap (s : State) (x : Nat) : (s.setFreeCount x).cap = s.cap := rfl
@[simp] theorem State.setFreeCount_pulseA (s : State) (x : Nat) : (s.setFreeCount x).pulseA = s.pulseA := rfl
@[simp] theorem State.setFreeCount_pulseB (s : State) (x : Nat) : (s.setFreeCount x).pulseB = s.pulseB := rfl
@[simp] theorem State.setFreeCount_chans (s : State) (x : Nat) : (s.setFreeCount x).chans = s.chans := rfl
@[simp] theorem State.setFreeCount_start (s : State) (x : Nat) : (s.setFreeCount x).start = s.start := rfl
@[simp] theorem State.setFreeCount_spectra (s : State) (x : Nat) : (s.setFreeCount x).spectra = s.spectra := rfl
@[simp] theorem State.setFreeCount_comps (s : State) (x : Nat) : (s.setFreeCount x).comps = s.comps := rfl
@[simp] theorem State.setFreeCount_faults (s : State) (x : Nat) : (s.setFreeCount x).faults = s.faults := rfl
@[simp] theorem State.setFreeCount_store (s : State) (x : Nat) : (s.setFreeCount x).store = s.store := rfl
@[simp] theorem State.setFreeCount_nvm (s : State) (x : Nat) : (s.setFreeCount x).nvm = s.nvm := rfl
@[simp] theorem State.setFreeCount_bus (s : State) (x : Nat) : (s.setFreeCount x).bus = s.bus := rfl
@[simp] theorem State.setFreeCount_freeCount (s : State) (x : Nat) : (s.setFreeCount x).freeCount = x := rfl
@[simp] theorem State.setFreeCount_pending (s : State) (x : Nat) : (s.setFreeCount x).pending = s.pending := rfl

@[simp] theorem State.setPending_cfg (s : State) (x : List Instr) : (s.setPending x).cfg = s.cfg := rfl
@[simp] theorem State.setPending_lines (s : State) (x : List Instr) : (s.setPending x).lines = s.lines := rfl
@[simp] theorem State.setPending_power (s : State) (x : List Instr) : (s.setPending x).power = s.power := rfl
@[simp] theorem State.setPending_cap (s : State) (x : List Instr) : (s.setPending x).cap = s.cap := rfl
@[simp] theorem State.setPending_pulseA (s : State) (x : List Instr) : (s.setPending x).pulseA = s.pulseA := rfl
@[simp] theorem State.setPending_pulseB (s : State) (x : List Instr) : (s.setPending x).pulseB = s.pulseB := rfl
@[simp] theorem State.setPending_chans (s : State) (x : List Instr) : (s.setPending x).chans = s.chans := rfl
@[simp] theorem State.setPending_start (s : State) (x : List Instr) : (s.setPending x).start = s.start := rfl
@[simp] theorem State.setPending_spectra (s : State) (x : List Instr) : (s.setPending x).spectra = s.spectra := rfl
@[simp] theorem State.setPending_comps (s : State) (x : List Instr) : (s.setPending x).comps = s.comps := rfl
@[simp] theorem State.setPending_faults (s : State) (x : List Instr) : (s.setPending x).faults = s.faults := rfl
@[simp] theorem State.setPending_store (s : State) (x : List Instr) : (s.setPending x).store = s.store := rfl
@[simp] theorem State.setPending_nvm (s : State) (x : List Instr) : (s.setPending x).nvm = s.nvm := rfl
@[simp] theorem State.setPending_bus (s : State) (x : List Instr) : (s.setPending x).bus = s.bus := rfl
@[simp] theorem State.setPending_freeCount (s : State) (x : List Instr) : (s.setPending x).freeCount = s.freeCount := rfl
@[simp] theorem State.setPending_pending (s : State) (x : List Instr) : (s.setPending x).pending = x := rfl

@[simp] theorem State.setPulse_a (s : State) (x : PulseUnit) : s.setPulse .a x = s.setPulseA x := rfl
@[simp] theorem State.setPulse_b (s : State) (x : PulseUnit) : s.setPulse .b x = s.setPulseB x := rfl
@[simp] theorem State.pulse_a (s : State) : s.pulse .a = s.pulseA := rfl
@[simp] theorem State.pulse_b (s : State) : s.pulse .b = s.pulseB := rfl

end Sys2Proof.Machine
end

