-- ==== Sys2Proof/Laws/Frames.lean ====
section
/-! SUPPORT. Which blocks each shared operation can change: one lemma for each, to be cited instead of unfolding it. -/

namespace Sys2Proof

open Sys2Proof.Machine

theorem SameBut.refl (l : List Block) (s : State) : SameBut l s s := by
  intro b _; cases b <;> simp [Block.same]

theorem Block.same_trans {b : Block} {s t u : State} (h : b.same s t) (k : b.same t u) : b.same s u := by
  cases b <;> simp_all [Block.same]

theorem SameBut.trans {l : List Block} {s t u : State} (h : SameBut l s t) (k : SameBut l t u) : SameBut l s u :=
  fun b hb => Block.same_trans (h b hb) (k b hb)

theorem SameBut.mono {l m : List Block} {s t : State} (h : SameBut l s t) (k : l ⊆ m) : SameBut m s t :=
  fun b hb => h b fun hl => hb (k hl)

/-- One more operation behind what is known already. -/
theorem SameBut.andThen {l m : List Block} {s t u : State} (h : SameBut l s t) (k : SameBut m t u) (hm : m ⊆ l) :
    SameBut l s u := h.trans (k.mono hm)

/-- A fold of an operation that leaves blocks alone leaves them alone. -/
theorem SameBut.foldl {α : Type} {l : List Block} {f : State → α → State} (h : ∀ s a, SameBut l s (f s a)) :
    ∀ (as : List α) (s : State), SameBut l s (as.foldl f s)
  | [], s => SameBut.refl l s
  | a :: r, s => (h s a).trans (SameBut.foldl h r (f s a))

theorem sameBut_ite {l : List Block} {s t u : State} {p : Prop} [Decidable p] (h : SameBut l s t) (k : SameBut l s u) :
    SameBut l s (if p then t else u) := by split <;> assumption

namespace Machine

theorem setCfg_same (s : State) (x : RunConfig) : SameBut [.cfg] s (s.setCfg x) := by
  intro b hb; cases b <;> simp_all [Block.same]
theorem setPower_same (s : State) (x : Power) : SameBut [.power] s (s.setPower x) := by
  intro b hb; cases b <;> simp_all [Block.same]
theorem setCap_same (s : State) (x : Capture) : SameBut [.cap] s (s.setCap x) := by
  intro b hb; cases b <;> simp_all [Block.same]
theorem setPulseA_same (s : State) (x : PulseUnit) : SameBut [.pulseA] s (s.setPulseA x) := by
  intro b hb; cases b <;> simp_all [Block.same]
theorem setPulseB_same (s : State) (x : PulseUnit) : SameBut [.pulseB] s (s.setPulseB x) := by
  intro b hb; cases b <;> simp_all [Block.same]
theorem setChans_same (s : State) (x : Vector Channel 24) : SameBut [.chans] s (s.setChans x) := by
  intro b hb; cases b <;> simp_all [Block.same]
theorem setStart_same (s : State) (x : StartUnit) : SameBut [.start] s (s.setStart x) := by
  intro b hb; cases b <;> simp_all [Block.same]
theorem setSpectra_same (s : State) (x : Vector Spectrum 4) : SameBut [.spectra] s (s.setSpectra x) := by
  intro b hb; cases b <;> simp_all [Block.same]
theorem setComps_same (s : State) (x : CompTable) : SameBut [.comps] s (s.setComps x) := by
  intro b hb; cases b <;> simp_all [Block.same]
theorem setFaults_same (s : State) (x : FaultUnit) : SameBut [.faults] s (s.setFaults x) := by
  intro b hb; cases b <;> simp_all [Block.same]
theorem setStore_same (s : State) (x : StoreCtl) : SameBut [.store] s (s.setStore x) := by
  intro b hb; cases b <;> simp_all [Block.same]
theorem setNvm_same (s : State) (x : List Host.Cell) : SameBut [.nvm] s (s.setNvm x) := by
  intro b hb; cases b <;> simp_all [Block.same]
theorem setBus_same (s : State) (x : Bus) : SameBut [.bus] s (s.setBus x) := by
  intro b hb; cases b <;> simp_all [Block.same]
theorem setFreeCount_same (s : State) (x : Nat) : SameBut [.freeCount] s (s.setFreeCount x) := by
  intro b hb; cases b <;> simp_all [Block.same]
theorem setPending_same (s : State) (x : List Instr) : SameBut [.pending] s (s.setPending x) := by
  intro b hb; cases b <;> simp_all [Block.same]
theorem setLines_same (s : State) (x : Lines) : SameBut [.inputs, .outputs] s (s.setLines x) := by
  intro b hb; cases b <;> simp_all [Block.same]
theorem setChan_same (s : State) (c : Fin 24) (x : Channel) : SameBut [.chans] s (s.setChan c x) :=
  setChans_same s _
theorem setSlot_same (s : State) (i : Fin 12) (x : Component) : SameBut [.comps] s (s.setSlot i x) :=
  setComps_same s _
theorem setSpectrum_same (s : State) (u : Fin 4) (x : Spectrum) : SameBut [.spectra] s (s.setSpectrum u x) :=
  setSpectra_same s _
theorem setPulse_same (s : State) (u : PulseId) (x : PulseUnit) : SameBut [.pulseA, .pulseB] s (s.setPulse u x) := by
  cases u
  · exact (setPulseA_same s x).mono (by decide)
  · exact (setPulseB_same s x).mono (by decide)
theorem setIndex_same (s : State) (ix : List (Nat × Nat)) : SameBut [.comps] s (s.setIndex ix) := setComps_same s _
theorem takeFree_same (n : Nat) (s : State) : SameBut [.freeCount] s (takeFree n s) := setFreeCount_same s _

/-- Driving the lines changes the output lines alone. -/
theorem driveLines_same (s : State) : SameBut [.outputs] s (driveLines s) := by
  intro b hb; cases b <;> simp_all [Block.same, driveLines]

/-! ### Queue and faults -/

theorem offerHead_same (s : State) : SameBut [.bus] s (offerHead s) :=
  sameBut_ite (setBus_same s _) (SameBut.refl _ s)

theorem shutGate_same (s : State) : SameBut [.bus] s (shutGate s) := setBus_same s _

theorem recordRaise_same (k : FaultKind) (i : Option Nat) (s : State) : SameBut [.faults] s (recordRaise k i s) :=
  setFaults_same s _

theorem raiseFuel_same : ∀ (n : Nat) (k : FaultKind) (i : Option Nat) (s : State),
    SameBut [.faults, .bus] s (raiseFuel n k i s)
  | 0, k, i, s => (recordRaise_same k i s).mono (by decide)
  | n + 1, k, i, s => by
    have h1 : SameBut [.faults, .bus] s (recordRaise k i s) := (recordRaise_same k i s).mono (by decide)
    unfold raiseFuel
    refine sameBut_ite ?_ h1
    have h2 := (h1.andThen (setBus_same _ (joinQueue (faultNotice k i (recordRaise k i s)) (recordRaise k i s).bus).1)
      (by decide)).andThen (offerHead_same _) (by decide)
    exact sameBut_ite (h2.trans (raiseFuel_same n _ _ _)) h2

/-- A raise changes the fault unit and, by its notice, bus traffic. -/
theorem raise_same (k : FaultKind) (i : Option Nat) (s : State) : SameBut [.faults, .bus] s (raise k i s) :=
  raiseFuel_same 3 k i s

theorem raiseEach_same (k : FaultKind) : ∀ (l : List Nat) (s : State), SameBut [.faults, .bus] s (raiseEach k l s)
  | [], s => SameBut.refl _ s
  | i :: r, s => (raise_same k (some i) s).trans (raiseEach_same k r _)

/-- A joining frame changes bus traffic and, when it is dropped, the fault unit. -/
theorem queueFrame_same (f : TxFrame) (s : State) : SameBut [.faults, .bus] s (queueFrame f s) := by
  have h : SameBut [.faults, .bus] s (offerHead (s.setBus (joinQueue f s.bus).1)) :=
    ((setBus_same s _).andThen (offerHead_same _) (by decide)).mono (by decide)
  exact sameBut_ite (h.trans (raise_same _ _ _)) h

theorem reRaise_same (p : FaultKind → Bool) (s : State) (k : FaultKind) : SameBut [.faults, .bus] s (reRaise p s k) := by
  refine sameBut_ite ?_ (SameBut.refl _ s)
  split
  · exact SameBut.refl _ s
  · exact raise_same _ _ s

theorem acknowledge_same (p : FaultKind → Bool) (s : State) : SameBut [.faults, .bus] s (acknowledge p s) :=
  ((setFaults_same s _).mono (by decide)).trans (SameBut.foldl (reRaise_same p) allKinds _)

/-! ### Channels and spectrum units -/

theorem turnDue_same (c : Fin 24) (cc : ChanCfg) (on : Bool) (s : State) :
    SameBut [.chans, .faults, .bus] s (turnDue c cc on s) := by
  have h := ((setChan_same s c { s.chans[c] with due := on }).mono
    (m := [.chans, .faults, .bus]) (by decide)).andThen (setFaults_same _ { (s.setChan c { s.chans[c] with due := on }).faults with
      dueSet := (s.setChan c { s.chans[c] with due := on }).faults.dueSet.set c on }) (by decide)
  exact sameBut_ite (h.andThen (queueFrame_same _ _) (by decide)) h

theorem retestDue_same (c : Fin 24) (cc : ChanCfg) (n : Nat) (s : State) :
    SameBut [.chans, .faults, .bus] s (retestDue c cc n s) :=
  sameBut_ite (SameBut.refl _ s) (sameBut_ite (SameBut.refl _ s) (turnDue_same _ _ _ _))

/-- A change of a channel's record changes the channels and, by its flags, the fault unit and bus traffic. -/
theorem commitChannel_same (c : Fin 24) (cc : ChanCfg) (ch : Channel) (s : State) :
    SameBut [.chans, .faults, .bus] s (commitChannel c cc ch s) := by
  have h : SameBut [.chans, .faults, .bus] s (s.setChan c (withSaturation ch).1) := (setChan_same s c _).mono (by decide)
  exact (sameBut_ite (h.andThen (raise_same _ _ _) (by decide)) h).trans (retestDue_same _ _ _ _)

theorem requestNormal_same (s : State) : SameBut [.store] s (requestNormal s) := setStore_same s _
theorem requestUrgent_same (s : State) : SameBut [.store] s (requestUrgent s) := setStore_same s _
theorem requestOrderly_same (s : State) : SameBut [.store] s (requestOrderly s) := setStore_same s _

theorem commitSpectrum_same (u : Fin 4) (r : Spectrum × Bool) (s : State) :
    SameBut [.spectra, .faults, .bus] s (commitSpectrum u r s) := by
  have h : SameBut [.spectra, .faults, .bus] s (s.setSpectrum u r.1) := (setSpectrum_same s u r.1).mono (by decide)
  exact sameBut_ite (h.andThen (raise_same _ _ _) (by decide)) h

theorem takeSend_same (c : Fin 24) (x : SpectrumSend) (s : State) (u : Fin 4) :
    SameBut [.spectra, .faults, .bus] s (takeSend c x s u) := by
  unfold takeSend
  split
  · exact SameBut.refl _ s
  · exact SameBut.refl _ s
  · exact commitSpectrum_same _ _ _
  · exact (commitSpectrum_same _ _ _).trans (commitSpectrum_same _ _ _)

theorem sendSpectrum_same (c : Fin 24) (x : SpectrumSend) (s : State) :
    SameBut [.spectra, .faults, .bus] s (sendSpectrum c x s) := SameBut.foldl (takeSend_same c x) _ s

theorem clearSpectra_same (c : Fin 24) (s : State) : SameBut [.spectra] s (clearSpectra c s) := by
  refine SameBut.foldl (fun s u => ?_) _ s
  unfold clearOwned
  split
  · exact SameBut.refl _ s
  · exact setSpectrum_same s u _

/-! ### Components and the start unit -/

theorem tally_same (sc : StartCfg) (ev : TallyEvent) (s : State) : SameBut [.comps] s (tally sc ev s) := by
  unfold tally
  split
  · exact SameBut.refl _ s
  · exact setSlot_same s _ _

theorem closeOut_same (s : State) (c : Fin 24) : SameBut [.chans, .faults, .bus, .spectra] s (closeOut s c) := by
  have h := ((setChan_same s c (closeOutChannel s.chans[c])).mono
    (m := [.chans, .faults, .bus, .spectra]) (by decide)).andThen (setFaults_same _ { (s.setChan c (closeOutChannel s.chans[c])).faults with
      dueSet := (s.setChan c (closeOutChannel s.chans[c])).faults.dueSet.set c false }) (by decide)
  exact (sameBut_ite (h.andThen (raise_same _ _ _) (by decide)) h).andThen (clearSpectra_same _ _) (by decide)

theorem startUnitClose_same (i : Fin 12) (s : State) : SameBut [.start] s (startUnitClose i s) := by
  unfold startUnitClose
  split
  · exact SameBut.refl _ s
  · exact sameBut_ite (setStart_same s _) (SameBut.refl _ s)

theorem appendEntry_same (e : HistEntry) (s : State) : SameBut [.comps, .store] s (appendEntry e s) :=
  ((setComps_same s _).mono (by decide)).andThen (requestNormal_same _) (by decide)

theorem noticeClose_same (i : Fin 12) (r : Reason) (g q : Nat) (s : State) :
    SameBut [.faults, .bus] s (noticeClose i r g q s) := sameBut_ite (queueFrame_same _ _) (SameBut.refl _ s)

/-- The blocks a close can change. -/
abbrev closeBlocks : List Block := [.chans, .start, .spectra, .comps, .faults, .store, .bus]

/-- A close changes channels, start unit, spectrum units, component table, fault unit, checkpoint requests and
bus traffic. -/
theorem closeSlot_same (i : Fin 12) (cls : Class) (r : Reason) (id : Option Nat) (s : State) :
    SameBut closeBlocks s (closeSlot i cls r id s) := by
  have h : SameBut closeBlocks s ((boundChannels s.cfg i).foldl closeOut s) :=
    (SameBut.foldl closeOut_same _ s).mono (by decide)
  unfold closeSlot
  exact (((h.andThen (setSlot_same _ i _) (by decide)).andThen (startUnitClose_same i _) (by decide)).andThen
    (appendEntry_same _ _) (by decide)).andThen (noticeClose_same _ _ _ _ _) (by decide)

theorem identityField_same (i : Fin 12) (cls : Class) (v : Nat) (s : State) :
    SameBut closeBlocks s (identityField i cls v s) := by
  have hs (x : Component) : SameBut closeBlocks s (s.setSlot i x) := (setSlot_same s i x).mono (by decide)
  unfold identityField
  refine sameBut_ite (SameBut.refl _ s) ?_
  split
  · exact hs _
  · exact sameBut_ite (SameBut.refl _ s) (hs _)
  · refine sameBut_ite (hs _) (sameBut_ite (sameBut_ite (hs _) ?_) (hs _))
    exact sameBut_ite (closeSlot_same _ _ _ _ s) (hs _)

theorem retrySlots_same : ∀ (l : List (Fin 12)) (s : State), SameBut closeBlocks s (retrySlots l s)
  | [], s => SameBut.refl _ s
  | i :: r, s => by
    unfold retrySlots
    split
    · exact retrySlots_same r s
    · exact sameBut_ite (sameBut_ite ((closeSlot_same _ _ _ _ s).trans (retrySlots_same r _)) (SameBut.refl _ s))
        (retrySlots_same r s)

theorem retryDeferred_same (s : State) : SameBut closeBlocks s (retryDeferred s) := retrySlots_same _ s

theorem openAttempt_same (sc : StartCfg) (s : State) : SameBut [.start, .comps] s (openAttempt sc s) := by
  have h (ev : TallyEvent) (s : State) : SameBut [.start, .comps] s (tally sc ev s) := (tally_same sc ev s).mono (by decide)
  exact sameBut_ite (((h _ s).trans (h _ _)).andThen (setStart_same _ _) (by decide))
    ((h _ s).andThen (setStart_same _ _) (by decide))

theorem enterRunning_same (sc : StartCfg) (s : State) : SameBut [.start, .comps] s (enterRunning sc s) := by
  have h : SameBut [.start, .comps] s (tally sc (.start (decide (s.start.temp = .cold))) s) :=
    (tally_same sc _ s).mono (by decide)
  exact sameBut_ite (h.andThen (setStart_same _ _) (by decide)) (h.andThen (setStart_same _ _) (by decide))

theorem failAttempt_same (sc : StartCfg) (s : State) : SameBut [.start, .comps] s (failAttempt sc s) :=
  ((tally_same sc .failed s).mono (by decide)).andThen (setStart_same _ _) (by decide)

theorem boardChange_same (sc : StartCfg) (s : State) : SameBut [.start, .comps] s (boardChange sc s) := by
  have h : SameBut [.start, .comps] s (s.setStart { s.start with lastCrank := crankIndication s.cap.board }) :=
    (setStart_same s _).mono (by decide)
  have hst (s : State) (x : StartUnit) : SameBut [.start, .comps] s (s.setStart x) := (setStart_same s x).mono (by decide)
  have ht (ev : TallyEvent) (s : State) : SameBut [.start, .comps] s (tally sc ev s) := (tally_same sc ev s).mono (by decide)
  unfold boardChange
  split
  · exact sameBut_ite (h.trans (openAttempt_same sc _)) h
  · refine sameBut_ite (h.trans ?_) h
    unfold endCranking
    split
    · exact hst _ _
    · exact failAttempt_same sc _
    · exact hst _ _
  · refine h.trans (sameBut_ite ((ht _ _).trans (hst _ _)) ?_)
    split
    · exact hst _ _
    · exact failAttempt_same sc _
    · exact SameBut.refl _ _
  · refine h.trans (sameBut_ite ((ht _ _).trans (openAttempt_same sc _)) ?_)
    split
    · exact enterRunning_same sc _
    · exact failAttempt_same sc _
    · exact SameBut.refl _ _
  · exact sameBut_ite (h.trans ((ht _ _).trans (ht _ _))) h

theorem startBoardChange_same (s : State) : SameBut [.start, .comps] s (startBoardChange s) := by
  unfold startBoardChange
  split
  · exact SameBut.refl _ s
  · exact sameBut_ite (boardChange_same _ s) (SameBut.refl _ s)

theorem startActiveEntry_same (s : State) : SameBut [.start, .comps] s (startActiveEntry s) :=
  ((setStart_same s _).mono (by decide)).trans (startBoardChange_same _)

theorem tickStep_same (sc : StartCfg) (s : State) : SameBut [.start, .comps] s (tickStep sc s) := by
  have hst (s : State) (x : StartUnit) : SameBut [.start, .comps] s (s.setStart x) := (setStart_same s x).mono (by decide)
  have ht (ev : TallyEvent) (s : State) : SameBut [.start, .comps] s (tally sc ev s) := (tally_same sc ev s).mono (by decide)
  have hadv (s : State) : SameBut [.start, .comps] s (advanceStall sc s) := sameBut_ite (hst _ _) (SameBut.refl _ s)
  have hend (s : State) : SameBut [.start, .comps] s (endRun sc s) :=
    (sameBut_ite (ht _ s) (SameBut.refl _ s)).trans (hst _ _)
  have hstop (s : State) : SameBut [.start, .comps] s (stopTest sc s) := by
    unfold stopTest
    split
    · exact sameBut_ite (hst _ _) ((hst _ _).trans (hend _))
    · exact hst _ _
    · exact SameBut.refl _ s
  unfold tickStep
  split
  · exact SameBut.refl _ s
  · have h := (hst s { s.start with crankTicks := satAdd max16 s.start.crankTicks 1 }).trans (ht .crankTick _)
    exact sameBut_ite ((h.trans (hst _ _)).trans (ht _ _)) h
  · exact sameBut_ite (hst _ _) ((hst _ _).trans (enterRunning_same sc _))
  · exact SameBut.refl _ s
  · exact (hstop s).trans (hadv _)

theorem endAttempt_same (s : State) : SameBut [.start, .comps] s (endAttempt s) := by
  have hst (s : State) (x : StartUnit) : SameBut [.start, .comps] s (s.setStart x) := (setStart_same s x).mono (by decide)
  have ht (sc : StartCfg) (s : State) : SameBut [.start, .comps] s (quietStart (tally sc .unresolved s)) :=
    ((tally_same sc _ s).mono (by decide)).trans (hst _ _)
  unfold endAttempt
  split
  · exact SameBut.refl _ s
  · split
    · exact ht _ s
    · exact ht _ s
    · exact ht _ s
    · exact hst _ _
    · exact hst _ _

/-! ### Signal capture -/

theorem tellStale_same (old new : Board) (s : State) : SameBut [.faults, .bus] s (tellStale old new s) :=
  ((setFaults_same s _).mono (by decide)).trans (raiseEach_same _ _ _)

theorem feedOneKey_same : ∀ (l : List (Fin 24)) (s : State), SameBut [.bus] s (feedOneKey l s)
  | [], s => setBus_same s _
  | c :: r, s => by
    have h : SameBut [.bus] s (s.setBus { s.bus with keyList := r }) := setBus_same s _
    unfold feedOneKey
    split
    · exact h.trans (feedOneKey_same r _)
    · exact sameBut_ite ((h.trans (setBus_same _ _)).trans (offerHead_same _)) (h.trans (feedOneKey_same r _))

theorem tryKeyList_same (s : State) : SameBut [.bus] s (tryKeyList s) :=
  sameBut_ite (feedOneKey_same _ s) (SameBut.refl _ s)

theorem feedKeyList_same : ∀ (n : Nat) (s : State), SameBut [.bus] s (feedKeyList n s)
  | 0, s => SameBut.refl _ s
  | n + 1, s => sameBut_ite (SameBut.refl _ s) ((tryKeyList_same s).trans (feedKeyList_same n _))

theorem keyStateChange_same (s : State) : SameBut [.power, .bus] s (keyStateChange s) := by
  have hp (x : Power) : SameBut [.power, .bus] s (s.setPower x) := (setPower_same s x).mono (by decide)
  unfold keyStateChange
  refine sameBut_ite (SameBut.refl _ s) (sameBut_ite (sameBut_ite (SameBut.refl _ s) ?_) (sameBut_ite (hp _) (SameBut.refl _ s)))
  exact ((hp _).andThen (setBus_same _ _) (by decide)).andThen (feedKeyList_same _ _) (by decide)

/-- The blocks a signal change can change beside signal capture. -/
abbrev changeBlocks : List Block := [.start, .comps, .power, .faults, .bus]

theorem tellRest_same (old new : Board) (s : State) : SameBut changeBlocks s (tellRest old new s) := by
  have h : SameBut changeBlocks s (keyStateChange s) := (keyStateChange_same s).mono (by decide)
  exact (sameBut_ite (p := signalChanged old[sKeyState] new[sKeyState] = true) h (SameBut.refl _ s)).andThen
    (tellStale_same _ _ _) (by decide)

theorem deliver_same (old new : Board) (s : State) : SameBut changeBlocks s (deliver old new s) := by
  have h : SameBut changeBlocks s (startBoardChange s) := (startBoardChange_same s).mono (by decide)
  exact (sameBut_ite (p := startSees old new = true) h (SameBut.refl _ s)).trans (tellRest_same _ _ _)

/-- The blocks an event at signal capture can change. -/
abbrev captureBlocks : List Block := [.cap, .start, .comps, .power, .faults, .bus]

theorem captureEvent_same (xs : Vector Source 27) (l : List Sig) (s : State) :
    SameBut captureBlocks s (captureEvent xs l s) :=
  ((setCap_same s _).mono (by decide)).andThen (deliver_same _ _ _) (by decide)

theorem refreshPulse_same (u : PulseId) (v : Int) (s : State) : SameBut captureBlocks s (refreshPulse u v s) := by
  unfold refreshPulse
  split
  · exact SameBut.refl _ s
  · exact captureEvent_same _ _ s

theorem ignFresh_same (s : State) : SameBut captureBlocks s (ignFresh s) := by
  unfold ignFresh
  split
  · exact SameBut.refl _ s
  · exact captureEvent_same _ _ s

theorem enterSignals_same (s : State) : SameBut captureBlocks s (enterSignals s) := by
  unfold enterSignals
  split
  · exact (startActiveEntry_same s).mono (by decide)
  · exact (((setCap_same s _).mono (by decide)).andThen (startActiveEntry_same _) (by decide)).andThen
      (tellRest_same _ _ _) (by decide)

theorem ignUnknown_same (s : State) : SameBut captureBlocks s (ignUnknown s) := by
  unfold ignUnknown
  split
  · exact SameBut.refl _ s
  · exact captureEvent_same _ _ s

theorem forgetSources_same (s : State) : SameBut [.cap, .faults, .bus] s (forgetSources s) :=
  ((setCap_same s _).mono (by decide)).andThen (tellStale_same _ _ _) (by decide)

theorem stopTimers_same (s : State) : SameBut [.cap] s (stopTimers s) := setCap_same s _
theorem emptyReceive_same (s : State) : SameBut [.cap] s (emptyReceive s) := setCap_same s _

/-! ### Answers and power control -/

theorem feedOneBurst_same (s : State) : SameBut [.bus] s (feedOneBurst s) := by
  unfold feedOneBurst
  split
  · exact SameBut.refl _ s
  · exact sameBut_ite ((setBus_same s _).trans (offerHead_same _)) (SameBut.refl _ s)

theorem feedBurst_same : ∀ (n : Nat) (s : State), SameBut [.bus] s (feedBurst n s)
  | 0, s => SameBut.refl _ s
  | n + 1, s => (feedOneBurst_same s).trans (feedBurst_same n _)

theorem enterSending_same (fs : List TxFrame) (s : State) : SameBut [.bus] s (enterSending fs s) :=
  (setBus_same s _).trans (feedBurst_same _ _)

theorem answerResult_same (n : Nat) (r : Result) (s : State) : SameBut [.bus] s (answerResult n r s) :=
  enterSending_same _ s

theorem answerRead_same (a b c : Nat) (l : List Byte) (s : State) : SameBut [.bus, .freeCount] s (answerRead a b c l s) :=
  ((takeFree_same _ s).mono (by decide)).andThen (enterSending_same _ _) (by decide)

theorem openGate_same (s : State) : SameBut [.faults, .bus] s (openGate s) := by
  have h : SameBut [.faults, .bus] s (s.setBus { s.bus with gate := true, summaryCount := 0, statusCount := 0 }) :=
    (setBus_same s _).mono (by decide)
  exact sameBut_ite (SameBut.refl _ s) ((h.trans (queueFrame_same _ _)).andThen (offerHead_same _) (by decide))

theorem abandonWindows_same (s : State) : SameBut [.pulseA, .pulseB] s (abandonWindows s) :=
  ((setPulseA_same s _).mono (by decide)).andThen (setPulseB_same _ _) (by decide)
theorem openWindows_same (s : State) : SameBut [.pulseA, .pulseB] s (openWindows s) :=
  ((setPulseA_same s _).mono (by decide)).andThen (setPulseB_same _ _) (by decide)
theorem clearDisagreements_same (s : State) : SameBut [.pulseA, .pulseB] s (clearDisagreements s) :=
  ((setPulseA_same s _).mono (by decide)).andThen (setPulseB_same _ _) (by decide)
theorem endEpisodes_same (s : State) : SameBut [.chans] s (endEpisodes s) := setChans_same s _

theorem freeSlot_same (s : State) : SameBut [.bus, .store] s (freeSlot s) := by
  have h : SameBut [.bus, .store] s (s.setBus { s.bus with slot := .idle, burst := [], fed := 0, sent := 0 }) :=
    (setBus_same s _).mono (by decide)
  simp only [freeSlot]
  split
  · exact h
  · exact sameBut_ite (h.andThen (setStore_same _ _) (by decide)) h

theorem dropTraffic_same (s : State) : SameBut [.bus, .store] s (dropTraffic s) :=
  ((setBus_same s _).mono (by decide)).trans (freeSlot_same _)

theorem endLinkOff_same (s : State) : SameBut [.faults] s (endLinkOff s) := setFaults_same s _

/-- The blocks that an entry to a power state can change: all that a command can change but the configuration,
the input lines, the store's contents, the spectrum units and the queue of commands. -/
abbrev entryBlocks : List Block :=
  [.power, .cap, .pulseA, .pulseB, .chans, .start, .comps, .faults, .store, .bus]

theorem wakeEvent_same (w : WakeCause) (s : State) : SameBut entryBlocks s (wakeEvent w s) :=
  (((setPower_same s _).mono (by decide)).andThen (forgetSources_same _) (by decide)).andThen (endEpisodes_same _) (by decide)

theorem parkBlocks_same (s : State) : SameBut entryBlocks s (parkBlocks s) :=
  ((((((((setPower_same s _).mono (by decide)).andThen (dropTraffic_same _) (by decide)).andThen (endLinkOff_same _)
    (by decide)).andThen (emptyReceive_same _) (by decide)).andThen (stopTimers_same _) (by decide)).andThen
    (ignUnknown_same _) (by decide)).andThen (abandonWindows_same _) (by decide)).andThen (endAttempt_same _) (by decide)

theorem parkedEntry_same (s : State) : SameBut entryBlocks s (parkedEntry s) :=
  sameBut_ite ((parkBlocks_same s).trans (wakeEvent_same _ _)) (parkBlocks_same s)

theorem startLink_same (b : Bool) (s : State) : SameBut [.bus] s (startLink b s) :=
  sameBut_ite (SameBut.refl _ s) (setBus_same s _)

theorem warningRequest_same (s : State) : SameBut [.store] s (warningRequest s) :=
  sameBut_ite (requestUrgent_same s) (SameBut.refl _ s)

theorem activeEntry_same (b : Bool) (s : State) : SameBut entryBlocks s (activeEntry b s) :=
  (((((((setPower_same s _).mono (by decide)).andThen (startLink_same _ _) (by decide)).andThen
    (warningRequest_same _) (by decide)).andThen (setFaults_same _ _) (by decide)).andThen (shutGate_same _)
    (by decide)).andThen (openWindows_same _) (by decide)).andThen (enterSignals_same _) (by decide)

theorem enterClosing_same (s : State) : SameBut entryBlocks s (enterClosing s) :=
  (((((setPower_same s _).mono (by decide)).andThen (requestOrderly_same _) (by decide)).andThen (endEpisodes_same _)
    (by decide)).andThen (endAttempt_same _) (by decide)).andThen (abandonWindows_same _) (by decide)

theorem reportAbandonment_same (s : State) : SameBut [.store] s (reportAbandonment s) :=
  sameBut_ite (setStore_same s _) (setStore_same s _)

theorem abandonClosing_same (s : State) : SameBut entryBlocks s (abandonClosing s) :=
  ((reportAbandonment_same s).mono (by decide)).trans (activeEntry_same _ _)

theorem occupyPort_same (op : StoreOp) (s : State) : SameBut [.store] s (occupyPort op s) := setStore_same s _
theorem freePort_same (s : State) : SameBut [.store] s (freePort s) := setStore_same s _

theorem reportCompletion_same (o : CkptOutcome) (b : Bool) (s : State) : SameBut entryBlocks s (reportCompletion o b s) := by
  unfold reportCompletion
  repeat' split
  all_goals first | exact SameBut.refl _ s | exact parkedEntry_same s

theorem afterCheckpoint_same (o : CkptOutcome) (b : Bool) (s : State) : SameBut entryBlocks s (afterCheckpoint o b s) :=
  (reportCompletion_same o b s).trans (sameBut_ite ((setStore_same _ _).mono (by decide)) (SameBut.refl _ _))

theorem applyStaged_same (s : State) (c : Fin 24) : SameBut [.chans, .faults, .bus] s (applyStaged s c) := by
  unfold applyStaged
  split
  · exact SameBut.refl _ s
  · split
    · exact SameBut.refl _ s
    · exact commitChannel_same _ _ _ s

theorem applyAllStaged_same (s : State) : SameBut [.chans, .faults, .bus] s (applyAllStaged s) :=
  SameBut.foldl applyStaged_same _ s

theorem disableJournal_same (n : Nat) (s : State) : SameBut [.store, .faults, .bus] s (disableJournal n s) :=
  (((setStore_same s _).mono (by decide)).andThen (setFaults_same _ _) (by decide)).andThen (raise_same _ _ _) (by decide)

theorem startCheckpoint_same (j : Fin 11) (b : Bool) (s : State) : SameBut [.store, .nvm] s (startCheckpoint j b s) :=
  (((setNvm_same s _).mono (by decide)).andThen (setStore_same _ _) (by decide)).andThen (occupyPort_same _ _) (by decide)

/-- The blocks that a checkpoint begin can change. -/
abbrev beginBlocks : List Block := .nvm :: entryBlocks

theorem beginCheckpoint_same (s : State) : SameBut beginBlocks s (beginCheckpoint s) := by
  have h : SameBut beginBlocks s (clearRequests (applyAllStaged s)) :=
    ((applyAllStaged_same s).mono (by decide)).andThen (setStore_same _ _) (by decide)
  have ha (o : CkptOutcome) (b : Bool) (s : State) : SameBut beginBlocks s (afterCheckpoint o b s) :=
    (afterCheckpoint_same o b s).mono (by decide)
  unfold beginCheckpoint
  refine sameBut_ite (h.trans (ha _ _ _)) ?_
  split
  · exact (h.andThen (disableJournal_same _ _) (by decide)).trans (ha _ _ _)
  · exact sameBut_ite (h.andThen (startCheckpoint_same _ _ _) (by decide))
      ((h.andThen (disableJournal_same _ _) (by decide)).trans (ha _ _ _))

end Machine

end Sys2Proof
end

