-- ==== Sys2Proof/Laws/Memory.lean ====
section
/-! SUPPORT. The store's bytes: every operation keeps the canonical form, and what is read after a write. -/

namespace Sys2Proof.Machine

theorem memWfFrom_mono : ∀ {lo lo' : Nat} {m : List Host.Cell}, lo ≤ lo' → memWfFrom lo' m = true → memWfFrom lo m = true
  | _, _, [], _, _ => rfl
  | _, _, c :: r, h, k => by
    simp only [memWfFrom, Bool.and_eq_true, decide_eq_true_eq] at k ⊢
    exact ⟨⟨⟨by omega, k.1.1.2⟩, k.1.2⟩, k.2⟩

/-- What a list in canonical form reads below its start. -/
theorem memRead_below : ∀ {lo : Nat} {m : List Host.Cell} {a : Nat}, memWfFrom lo m = true → a < lo → memRead m a = unlistedByte
  | _, [], _, _, _ => rfl
  | lo, c :: r, a, h, k => by
    simp only [memWfFrom, Bool.and_eq_true, decide_eq_true_eq] at h
    rw [memRead, if_neg (by omega)]
    exact memRead_below (lo := c.1 + 1) h.2 (by omega)

theorem consCell_wf {lo a : Nat} {b : Byte} {r : List Host.Cell} (hl : lo ≤ a) (ha : a < storeSize)
    (h : memWfFrom (a + 1) r = true) : memWfFrom lo (consCell a b r) = true := by
  unfold consCell
  split
  · exact memWfFrom_mono (by omega) h
  · simp_all [memWfFrom]

theorem memWrite_wfFrom : ∀ {lo : Nat} {m : List Host.Cell} {a : Nat} {b : Byte},
    memWfFrom lo m = true → lo ≤ a → a < storeSize → memWfFrom lo (memWrite m a b) = true
  | _, [], _, _, _, hl, ha => consCell_wf hl ha rfl
  | lo, c :: r, a, b, h, hl, ha => by
    have h0 := h
    simp only [memWfFrom, Bool.and_eq_true, decide_eq_true_eq] at h
    unfold memWrite
    split
    · exact consCell_wf hl ha (by simp_all [memWfFrom])
    · split
      · rename_i e; exact consCell_wf hl ha (by rw [e]; exact h.2)
      · have := memWrite_wfFrom (lo := c.1 + 1) (b := b) h.2 (by omega) ha
        simp_all [memWfFrom]

/-- A write inside blocks 0 to 4 keeps the canonical form. -/
theorem memWrite_wf {m : List Host.Cell} {a : Nat} {b : Byte} (h : memWf m = true) (ha : a < storeSize) :
    memWf (memWrite m a b) = true := memWrite_wfFrom h (Nat.zero_le a) ha

theorem filter_wfFrom (p : Host.Cell → Bool) : ∀ {m : List Host.Cell} {lo : Nat}, memWfFrom lo m = true →
    memWfFrom lo (m.filter p) = true
  | [], _, _ => rfl
  | c :: r, lo, h => by
    simp only [memWfFrom, Bool.and_eq_true, decide_eq_true_eq] at h
    have hr := filter_wfFrom p h.2
    rw [List.filter_cons]
    split
    · simp_all [memWfFrom]
    · exact memWfFrom_mono (by omega) hr

theorem consCell_append (a : Nat) (b : Byte) (r q : List Host.Cell) :
    consCell a b r ++ q = consCell a b (r ++ q) := by unfold consCell; split <;> rfl

theorem listCells_wfFrom : ∀ {bs : List Byte} {a : Nat} {m : List Host.Cell}, a + bs.length ≤ storeSize →
    memWfFrom (a + bs.length) m = true → memWfFrom a (listCells a bs ++ m) = true
  | [], _, _, _, h => h
  | b :: r, a, m, k, h => by
    simp only [List.length_cons] at k h
    have ih : memWfFrom (a + 1) (listCells (a + 1) r ++ m) = true :=
      listCells_wfFrom (by omega) (by rw [show a + 1 + r.length = a + (r.length + 1) by omega]; exact h)
    rw [listCells, consCell_append]
    exact consCell_wf (Nat.le_refl a) (by omega) ih

/-- Cells from an address on are in canonical form from there. -/
theorem filter_from_wf : ∀ {m : List Host.Cell} {lo x : Nat}, memWfFrom lo m = true →
    memWfFrom x (m.filter fun c => decide (x ≤ c.1)) = true
  | [], _, _, _ => rfl
  | c :: r, lo, x, h => by
    simp only [memWfFrom, Bool.and_eq_true, decide_eq_true_eq] at h
    rw [List.filter_cons]
    split
    · rename_i hx
      have hr := filter_wfFrom (fun d : Host.Cell => decide (x ≤ d.1)) h.2
      simp_all [memWfFrom]
    · exact filter_from_wf h.2

/-- A canonical list has no cell below its start. -/
theorem filter_below_nil : ∀ {m : List Host.Cell} {lo x : Nat}, memWfFrom lo m = true → x ≤ lo →
    (m.filter fun c => decide (c.1 < x)) = []
  | [], _, _, _, _ => rfl
  | c :: r, lo, x, h, k => by
    simp only [memWfFrom, Bool.and_eq_true, decide_eq_true_eq] at h
    rw [List.filter_cons_of_neg (by simp; omega)]
    exact filter_below_nil h.2 (by omega)

/-- Cells below an address in front of a canonical list from there on. -/
theorem filter_below_append_wf : ∀ {m : List Host.Cell} {lo x : Nat} {q : List Host.Cell}, memWfFrom lo m = true →
    lo ≤ x → memWfFrom x q = true → memWfFrom lo ((m.filter fun c => decide (c.1 < x)) ++ q) = true
  | [], _, _, _, _, k, hq => memWfFrom_mono k hq
  | c :: r, lo, x, q, h, k, hq => by
    simp only [memWfFrom, Bool.and_eq_true, decide_eq_true_eq] at h
    rw [List.filter_cons]
    split
    · rename_i hx
      have hx := of_decide_eq_true hx
      have ih := filter_below_append_wf (x := x) (q := q) h.2 (by omega) hq
      simp_all [memWfFrom]
    · rename_i hx
      have hx : ¬ c.1 < x := by simpa using hx
      rw [filter_below_nil h.2 (by omega)]
      exact memWfFrom_mono k hq

/-- A write inside the store keeps the canonical form. -/
theorem memWriteBytes_wf {bs : List Byte} {m : List Host.Cell} {a : Nat} (h : memWf m = true)
    (k : a + bs.length ≤ storeSize) : memWf (memWriteBytes m a bs) = true := by
  unfold memWf memWriteBytes
  rw [List.append_assoc]
  exact filter_below_append_wf h (Nat.zero_le a) (listCells_wfFrom k (filter_from_wf h))

theorem memWriteCells_wf : ∀ {d : Deviation} {m : List Host.Cell} {a len : Nat}, memWf m = true → a + len ≤ storeSize →
    memWf (memWriteCells m a len d) = true
  | [], _, _, _, h, _ => h
  | p :: r, m, a, len, h, k => by
    refine memWriteCells_wf (d := r) ?_ k
    split
    · exact memWrite_wf h (by omega)
    · exact h

/-- An erase keeps the canonical form. -/
theorem memErase_wf {m : List Host.Cell} {a n : Nat} (h : memWf m = true) : memWf (memErase m a n) = true :=
  filter_wfFrom _ h

/-- The write that spoils a record inside the store keeps the canonical form. -/
theorem spoilRecord_wf {m : List Host.Cell} {a n : Nat} (h : memWf m = true) (k : a + (n - 1) < storeSize) :
    memWf (spoilRecord m a n) = true := memWrite_wf h k

/-- The write that leaves a cut history record torn keeps the canonical form. -/
theorem forceTorn_wf {m : List Host.Cell} {p : Nat} (h : memWf m = true) (hp : p < 32) : memWf (forceTorn p m) = true := by
  unfold forceTorn
  split
  · exact h
  · exact spoilRecord_wf h (by unfold historyAddr storeSize; omega)

/-- The write that leaves a history position without a valid record keeps the canonical form. -/
theorem forceNoEntry_wf {m : List Host.Cell} {p : Nat} (h : memWf m = true) (hp : p < 32) :
    memWf (forceNoEntry p m) = true := by
  unfold forceNoEntry
  split
  · exact spoilRecord_wf h (by unfold historyAddr storeSize; omega)
  · exact h
  · exact h

/-- The write that leaves a journal slot without a valid record keeps the canonical form. -/
theorem forceInvalid_wf {m : List Host.Cell} {j : Fin 11} (h : memWf m = true) : memWf (forceInvalid j m) = true := by
  unfold forceInvalid
  split
  · exact spoilRecord_wf h (by unfold slotAddr storeSize; omega)
  · exact h
  · exact h

/-- The memory of the part right after reset is in canonical form. -/
theorem reset_memory_wf : memWf State.reset.nvm = true := rfl

/-! ### Reads -/

theorem memRead_consCell_same {lo a : Nat} {b : Byte} {r : List Host.Cell} (h : memWfFrom lo r = true) (ha : a < lo) :
    memRead (consCell a b r) a = b := by
  unfold consCell
  split
  · rename_i e; rw [e]; exact memRead_below h ha
  · simp [memRead]

theorem memRead_consCell_other {a x : Nat} {b : Byte} {r : List Host.Cell} (hx : x ≠ a) :
    memRead (consCell a b r) x = memRead r x := by
  unfold consCell
  split
  · rfl
  · simp [memRead, Ne.symm hx]

theorem memRead_memWrite_same_from : ∀ {lo : Nat} {m : List Host.Cell} {a : Nat} {b : Byte},
    memWfFrom lo m = true → memRead (memWrite m a b) a = b
  | _, [], a, _, _ => memRead_consCell_same (lo := a + 1) rfl (by omega)
  | lo, c :: r, a, b, h => by
    have h0 := h
    simp only [memWfFrom, Bool.and_eq_true, decide_eq_true_eq] at h
    unfold memWrite
    split
    · exact memRead_consCell_same (lo := a + 1) (by simp_all [memWfFrom]) (by omega)
    · split
      · rename_i e; exact memRead_consCell_same h.2 (by omega)
      · rw [memRead, if_neg (by omega)]
        exact memRead_memWrite_same_from h.2

/-- A byte reads as it was written. -/
theorem memRead_memWrite_same {m : List Host.Cell} {a : Nat} {b : Byte} (h : memWf m = true) :
    memRead (memWrite m a b) a = b := memRead_memWrite_same_from h

/-- A write leaves every other byte alone. -/
theorem memRead_memWrite_other : ∀ {m : List Host.Cell} {a x : Nat} {b : Byte}, x ≠ a →
    memRead (memWrite m a b) x = memRead m x
  | [], _, _, _, h => memRead_consCell_other h
  | c :: r, a, x, b, h => by
    unfold memWrite
    split
    · exact memRead_consCell_other h
    · split
      · rename_i e; rw [memRead_consCell_other h, memRead, if_neg (by omega)]
      · simp only [memRead]
        split
        · rfl
        · exact memRead_memWrite_other h

theorem memRead_filter (q : Nat → Bool) : ∀ {m : List Host.Cell} {x : Nat},
    memRead (m.filter fun c => q c.1) x = if q x then memRead m x else unlistedByte
  | [], _ => by simp [memRead]
  | c :: r, x => by
    have ih := memRead_filter q (m := r) (x := x)
    rw [List.filter_cons]
    by_cases hc : c.1 = x
    · subst hc
      by_cases hq : q c.1 <;> simp_all [memRead]
    · by_cases hq : q c.1 <;> simp_all [memRead]

theorem memRead_append_listCells_below : ∀ {bs : List Byte} {a x : Nat} {m : List Host.Cell},
    x < a ∨ a + bs.length ≤ x → memRead (listCells a bs ++ m) x = memRead m x
  | [], _, _, _, _ => rfl
  | b :: r, a, x, m, h => by
    simp only [List.length_cons] at h
    rw [listCells, consCell_append, memRead_consCell_other (by omega), memRead_append_listCells_below (by omega)]

theorem memRead_append_listCells : ∀ {bs : List Byte} {a i : Nat} {m : List Host.Cell},
    memWfFrom (a + bs.length) m = true → (h : i < bs.length) → memRead (listCells a bs ++ m) (a + i) = bs[i]
  | b :: r, a, i, m, k, h => by
    simp only [List.length_cons] at h k
    rw [listCells, consCell_append]
    match i with
    | 0 =>
      by_cases e : b = unlistedByte
      · rw [consCell, if_pos e, Nat.add_zero, memRead_append_listCells_below (by omega),
          memRead_below k (by omega), List.getElem_cons_zero, e]
      · simp [consCell, if_neg e, memRead]
    | i + 1 =>
      rw [memRead_consCell_other (by omega), show a + (i + 1) = a + 1 + i by omega,
        memRead_append_listCells (by rw [show a + 1 + r.length = a + (r.length + 1) by omega]; exact k) (by omega)]
      rfl

theorem listCells_range : ∀ {bs : List Byte} {a : Nat} {c : Host.Cell}, c ∈ listCells a bs → a ≤ c.1 ∧ c.1 < a + bs.length
  | b :: r, a, c, h => by
    rw [listCells, consCell] at h
    simp only [List.length_cons]
    split at h
    · have := listCells_range h; omega
    · rcases List.mem_cons.mp h with rfl | h
      · simp
      · have := listCells_range h; omega

/-- Cells at other addresses in front change no reading. -/
theorem memRead_append_left : ∀ {p q : List Host.Cell} {x : Nat}, (∀ c ∈ p, c.1 ≠ x) → memRead (p ++ q) x = memRead q x
  | [], _, _, _ => rfl
  | c :: r, q, x, h => by
    rw [List.cons_append, memRead, if_neg (h c (List.mem_cons_self ..))]
    exact memRead_append_left fun d hd => h d (List.mem_cons_of_mem c hd)

theorem memRead_append_right : ∀ {p q : List Host.Cell} {x : Nat}, (∀ c ∈ q, c.1 ≠ x) → memRead (p ++ q) x = memRead p x
  | [], q, x, h => by
    have := memRead_append_left (p := q) (q := []) (x := x) h
    simpa using this
  | c :: r, q, x, h => by
    rw [List.cons_append, memRead, memRead, memRead_append_right (p := r) h]

/-- Bytes written at rising addresses leave every byte outside them alone. -/
theorem memRead_memWriteBytes_other {bs : List Byte} {m : List Host.Cell} {a x : Nat}
    (h : x < a ∨ a + bs.length ≤ x) : memRead (memWriteBytes m a bs) x = memRead m x := by
  unfold memWriteBytes
  rcases Nat.lt_or_ge x a with hx | hx
  · rw [List.append_assoc, memRead_append_right]
    · rw [memRead_filter fun k => decide (k < a)]; simp [hx]
    · intro c hc
      rcases List.mem_append.mp hc with hc | hc
      · have := (listCells_range hc).1; omega
      · have := (List.mem_filter.mp hc).2; simp at this; omega
  · have h : a + bs.length ≤ x := by omega
    rw [List.append_assoc, memRead_append_left, memRead_append_listCells_below (by omega),
      memRead_filter fun k => decide (a + bs.length ≤ k)]
    · simp [h]
    · intro c hc
      have := (List.mem_filter.mp hc).2
      simp at this; omega

/-- Bytes written at rising addresses read as they were written. -/
theorem memRead_memWriteBytes_same {bs : List Byte} {m : List Host.Cell} {a i : Nat} (hw : memWf m = true)
    (h : i < bs.length) : memRead (memWriteBytes m a bs) (a + i) = bs[i] := by
  unfold memWriteBytes
  rw [List.append_assoc, memRead_append_left, memRead_append_listCells (filter_from_wf hw) h]
  intro c hc
  have := (List.mem_filter.mp hc).2
  simp at this; omega

/-- Differing bytes lie in their region. -/
theorem memRead_memWriteCells_other : ∀ {d : Deviation} {m : List Host.Cell} {a len x : Nat},
    x < a ∨ a + len ≤ x → memRead (memWriteCells m a len d) x = memRead m x
  | [], _, _, _, _, _ => rfl
  | p :: r, m, a, len, x, h => by
    rw [memWriteCells, memRead_memWriteCells_other h]
    split
    · exact memRead_memWrite_other (by omega)
    · rfl

/-- An erased byte reads 0xFF, every other byte as before. -/
theorem memRead_memErase {m : List Host.Cell} {a n x : Nat} :
    memRead (memErase m a n) x = if a ≤ x ∧ x < a + n then unlistedByte else memRead m x := by
  unfold memErase
  rw [memRead_filter fun k => !(decide (a ≤ k) && decide (k < a + n))]
  by_cases h : a ≤ x <;> by_cases k : x < a + n <;> simp_all

/-! ### Slices -/

theorem memSlice_length (m : List Host.Cell) (a n : Nat) : (memSlice m a n).length = n := by simp [memSlice]

/-- A slice holds the bytes of its region. -/
theorem memSlice_getElem {m : List Host.Cell} {a n i : Nat} (h : i < (memSlice m a n).length) :
    (memSlice m a n)[i] = memRead m (a + i) := by
  have hi : i < n := by simpa [memSlice] using h
  simp only [memSlice, List.getElem_map, List.getElem_range, cellsIn]
  rw [memRead_filter fun k => decide (a ≤ k) && decide (k < a + n)]
  simp [hi]

/-- Slices of two memories that read alike in the region are equal. -/
theorem memSlice_congr {m m' : List Host.Cell} {a n : Nat} (h : ∀ i, i < n → memRead m (a + i) = memRead m' (a + i)) :
    memSlice m a n = memSlice m' a n := by
  apply List.ext_getElem (by simp [memSlice_length])
  intro i h1 h2
  rw [memSlice_getElem, memSlice_getElem]
  exact h i (by simpa [memSlice_length] using h1)

/-- What was written is what a slice reads. -/
theorem memSlice_memWriteBytes {m : List Host.Cell} {a : Nat} {bs : List Byte} (hw : memWf m = true) :
    memSlice (memWriteBytes m a bs) a bs.length = bs := by
  apply List.ext_getElem (by simp [memSlice_length])
  intro i h1 h2
  rw [memSlice_getElem, memRead_memWriteBytes_same hw h2]

end Sys2Proof.Machine
end

