-- ==== Sys2Proof/Laws/Records.lean ====
section
/-! SUPPORT. Stored records: little-endian fields, the check word of a sealed record, the length of the items of a
checkpoint, and slots that writes elsewhere leave as they were. -/

namespace Sys2Proof.Machine

/-! ### Fields -/

@[simp] theorem leBytes_length : ∀ k n : Nat, (leBytes k n).length = k
  | 0, _ => rfl
  | k + 1, n => by rw [leBytes, List.length_cons, leBytes_length k]

/-- A field reads back as what was stored, modulo its width. -/
theorem leNat_leBytes : ∀ k n : Nat, leNat (leBytes k n) = n % 256 ^ k
  | 0, n => by simp [leBytes, leNat, Nat.mod_one]
  | k + 1, n => by
    rw [leBytes, leNat, leNat_leBytes k, BitVec.toNat_ofNat, show (2 : Nat) ^ 8 = 256 from rfl, Nat.pow_succ',
      Nat.mod_mul]

/-- A number that fits its field reads back. -/
theorem leNat_leBytes_fit {k n : Nat} (h : n < 256 ^ k) : leNat (leBytes k n) = n := by
  rw [leNat_leBytes, Nat.mod_eq_of_lt h]

theorem leNat_lt : ∀ bs : List Byte, leNat bs < 256 ^ bs.length
  | [] => Nat.one_pos
  | b :: r => by
    have := leNat_lt r
    have hb := b.isLt
    rw [leNat, List.length_cons, Nat.pow_succ']
    omega

/-- Items of one length behind each other: the piece of item `i`. -/
theorem flatMap_piece {α : Type} {f : α → List Byte} {w : Nat} (hw : ∀ x, (f x).length = w) :
    ∀ {l : List α} {i : Nat} (h : i < l.length), ((l.flatMap f).drop (w * i)).take w = f l[i]
  | x :: r, 0, _ => by simp [hw]
  | x :: r, i + 1, h => by
    have e : w * (i + 1) = (f x).length + w * i := by rw [hw, Nat.mul_succ, Nat.add_comm]
    rw [List.flatMap_cons, e, ← List.drop_drop, List.drop_left, List.getElem_cons_succ]
    exact flatMap_piece hw (by simpa using h)

theorem flatMap_length {α : Type} {f : α → List Byte} {w : Nat} (hw : ∀ x, (f x).length = w) (l : List α) :
    (l.flatMap f).length = w * l.length := by
  induction l with
  | nil => simp
  | cons x r ih => rw [List.flatMap_cons, List.length_append, ih, hw, List.length_cons, Nat.mul_succ, Nat.add_comm]

@[simp] theorem padTo_length (n : Nat) (fill : Byte) (bs : List Byte) : (padTo n fill bs).length = n := by
  simp [padTo]; omega

/-! ### The check word -/

theorem wordSum_append : ∀ {a b : List Byte}, a.length % 2 = 0 → wordSum (a ++ b) = wordSum a + wordSum b
  | [], b, _ => by simp [wordSum]
  | [_], _, h => by simp at h
  | x :: y :: r, b, h => by
    have ih := wordSum_append (a := r) (b := b) (by simp only [List.length_cons] at h; omega)
    simp only [List.cons_append, wordSum, ih]
    omega

theorem wordSum_word (n : Nat) : wordSum (leBytes 2 n) = n % 65536 := by
  simp [leBytes, wordSum]
  omega

/-- A sealed record has its `n` bytes and its check word, and its words sum to 0 modulo 65,536. -/
theorem sealRecord_holds {n : Nat} {body : List Byte} (hn : n % 2 = 0) (hb : body.length ≤ n) :
    (sealRecord n body).length = n + 2 ∧ checkHolds (sealRecord n body) = true := by
  have hf : (body.take n ++ List.replicate (n - body.length) (0xFF : Byte)).length = n := by simp; omega
  refine ⟨by rw [sealRecord, List.length_append, hf, leBytes_length], ?_⟩
  rw [checkHolds, decide_eq_true_eq, sealRecord, wordSum_append (by rw [hf]; exact hn), wordSum_word, checkWord]
  omega

/-- What a sealed record holds stands at its head. -/
theorem sealRecord_take {n : Nat} {body : List Byte} (hb : body.length ≤ n) :
    (sealRecord n body).take body.length = body := by
  rw [sealRecord, List.take_of_length_le hb, List.append_assoc, List.take_left' rfl]

/-- The last byte of a record of even length changed in its lowest bit: a check word that held does not. -/
theorem checkHolds_spoilt {p : List Byte} {x y : Byte} (hp : p.length % 2 = 0) (h : checkHolds (p ++ [x, y]) = true) :
    checkHolds (p ++ [x, y ^^^ 1]) = false := by
  simp only [checkHolds, wordSum_append hp, wordSum, decide_eq_true_eq, decide_eq_false_iff_not] at h ⊢
  have hb : ∀ z : Byte, (z ^^^ 1).toNat = z.toNat + 1 ∨ (z ^^^ 1).toNat + 1 = z.toNat := by decide +kernel
  have := hb y
  have := y.isLt
  omega

/-! ### The items of a checkpoint -/

@[simp] theorem talliesBytes_length (t : Tallies) :
    (talliesBytes t).length = match t with | .none => 0 | .engine _ => 24 | .starter _ => 16 := by
  cases t <;> simp [talliesBytes, engineBytes, starterBytes]

@[simp] theorem entryChanBytes_length (c : EntryChan) : (entryChanBytes c).length = 21 := by simp [entryChanBytes]

@[simp] theorem putComponent_length (x : CkptComponent) : (putComponent x).length = 40 := by simp [putComponent]

@[simp] theorem putChannel_length (x : CkptChannel) : (putChannel x).length = 30 := by simp [putChannel]

@[simp] theorem putSpectrum_length (x : Spectrum) : (putSpectrum x).length = 200 := by
  simp [putSpectrum, flatMap_length (leBytes_length 3)]

@[simp] theorem putFaults_length (x : FaultRecord) : (putFaults x).length = 26 := by
  unfold putFaults
  cases x.capture <;> simp

@[simp] theorem putEntry_length (e : HistEntry) : (putEntry e).length = 130 := by simp [putEntry]

/-- The items of Table 8-2 take 2,575 bytes. -/
@[simp] theorem checkpointBody_length (c : Checkpoint) : (checkpointBody c).length = 2575 := by
  simp [checkpointBody, flatMap_length putComponent_length, flatMap_length putChannel_length,
    flatMap_length putSpectrum_length]

/-- A checkpoint fills a slot. -/
theorem encodeCheckpoint_length (c : Checkpoint) : (encodeCheckpoint c).length = 4096 :=
  (sealRecord_holds rfl (by rw [checkpointBody_length]; omega)).1

/-- A checkpoint decoded from any bytes holds at most four entries. -/
theorem decodeCheckpoint_queue (bs : List Byte) : (decodeCheckpoint bs).queue.length ≤ 4 := by
  simp [decodeCheckpoint]

/-! ### Slots -/

/-- A slot reads the same where no byte of it differs. -/
theorem slotBytes_congr {m m' : List Host.Cell} {j : Fin 11}
    (h : ∀ k, k < 4096 → memRead m (slotAddr j + k) = memRead m' (slotAddr j + k)) : slotBytes m j = slotBytes m' j :=
  memSlice_congr h

/-- A byte of a slot is the byte of the store at its address. -/
theorem byteAt_slotBytes {m : List Host.Cell} {j : Fin 11} {k : Nat} (h : k < 4096) :
    byteAt (slotBytes m j) k = memRead m (slotAddr j + k) := by
  have e : k < (memSlice m (slotAddr j) 4096).length := by rw [memSlice_length]; exact h
  rw [byteAt, slotBytes, List.getD_eq_getElem _ _ e, memSlice_getElem]

/-- The selection depends on the journal slots alone. -/
theorem selectCheckpoint_congr {m m' : List Host.Cell} (h : ∀ j, slotBytes m j = slotBytes m' j) :
    selectCheckpoint m = selectCheckpoint m' := by
  have hb : betterSlot m = betterSlot m' := by funext b j; unfold betterSlot slotAt; rw [h]
  have hc : checkpointAt m = checkpointAt m' := by funext j; unfold checkpointAt; rw [h]
  rw [selectCheckpoint, selectCheckpoint, selectSlot, selectSlot, hb, hc]

/-- A write outside a slot leaves it as it was. -/
theorem slotBytes_memWriteBytes_other {m : List Host.Cell} {a : Nat} {bs : List Byte} {j : Fin 11}
    (h : a + bs.length ≤ slotAddr j ∨ slotAddr j + 4096 ≤ a) : slotBytes (memWriteBytes m a bs) j = slotBytes m j :=
  slotBytes_congr fun k hk => memRead_memWriteBytes_other (by omega)

/-- Changed bytes of a region outside a slot leave the slot as it was. -/
theorem slotBytes_memWriteCells_other {m : List Host.Cell} {a len : Nat} {d : Deviation} {j : Fin 11}
    (h : a + len ≤ slotAddr j ∨ slotAddr j + 4096 ≤ a) : slotBytes (memWriteCells m a len d) j = slotBytes m j :=
  slotBytes_congr fun k hk => memRead_memWriteCells_other (by omega)

/-- An erase outside a slot leaves it as it was, and an erased slot is blank. -/
theorem slotBytes_memErase {m : List Host.Cell} {i j : Fin 11} (h : i ≠ j) :
    slotBytes (memErase m (slotAddr i) 4096) j = slotBytes m j :=
  slotBytes_congr fun k hk => by
    rw [memRead_memErase, if_neg]
    have : i.val ≠ j.val := fun e => h (Fin.ext e)
    unfold slotAddr
    omega

theorem slotAt_erased (m : List Host.Cell) (j : Fin 11) : slotAt (memErase m (slotAddr j) 4096) j = .blank := by
  have h : recordBlank (slotBytes (memErase m (slotAddr j) 4096) j) = true := by
    rw [recordBlank, List.all_eq_true]
    intro b hb
    obtain ⟨i, hi, rfl⟩ := List.getElem_of_mem hb
    have hl : i < 4096 := by simpa [slotBytes, memSlice_length] using hi
    have : memRead (memErase m (slotAddr j) 4096) (slotAddr j + i) = unlistedByte := by
      rw [memRead_memErase, if_pos (by omega)]
    simpa [slotBytes, memSlice_getElem, unlistedByte] using this
  rw [slotAt, classifySlot, if_pos h]

/-- A record of even length whose check word holds, spoilt in its last byte: it holds no more. -/
theorem checkHolds_spoilRecord {m : List Host.Cell} {a k : Nat} (hw : memWf m = true) (hk : k % 2 = 0)
    (h : checkHolds (memSlice m a (k + 2)) = true) :
    checkHolds (memSlice (spoilRecord m a (k + 2)) a (k + 2)) = false := by
  have ends : ∀ m', memSlice m' a (k + 2) = memSlice m' a k ++ [memRead m' (a + k), memRead m' (a + (k + 1))] := by
    intro m'
    apply List.ext_getElem (by simp [memSlice_length])
    intro i h1 h2
    simp only [memSlice_getElem, List.getElem_append, memSlice_length]
    have : i < k + 2 := by simpa [memSlice_length] using h1
    split
    · rfl
    · rcases (by omega : i = k ∨ i = k + 1) with rfl | rfl <;> simp
  rw [ends] at h ⊢
  rw [spoilRecord, show k + 2 - 1 = k + 1 by omega, memRead_memWrite_other (by omega), memRead_memWrite_same hw,
    memSlice_congr fun i hi => memRead_memWrite_other (by omega)]
  exact checkHolds_spoilt (by simpa [memSlice_length] using hk) h

/-- What a cut or failed checkpoint write leaves holds no valid checkpoint (R138, R141). -/
theorem forceInvalid_not_valid {m : List Host.Cell} (j : Fin 11) (hw : memWf m = true) (seq : Nat) :
    slotAt (forceInvalid j m) j ≠ .valid seq := by
  unfold forceInvalid
  split
  · rename_i q hq
    have held : checkHolds (slotBytes m j) = true := by
      unfold slotAt classifySlot at hq
      split at hq
      · cases hq
      · split at hq
        · rename_i h; exact h.1
        · cases hq
    have lost : checkHolds (slotBytes (spoilRecord m (slotAddr j) 4096) j) = false :=
      checkHolds_spoilRecord hw (by decide) held
    unfold slotAt classifySlot
    split
    · simp
    · rw [if_neg (by simp [lost])]; simp
  · rename_i h; rw [h]; simp
  · rename_i h; rw [h]; simp

/-- What a failed history write leaves holds no valid record: the evicted entry is gone (R121). -/
theorem forceNoEntry_not_valid {m : List Host.Cell} (p : Nat) (hw : memWf m = true) (seq : Nat) :
    historyAt (forceNoEntry p m) p ≠ .valid seq := by
  unfold forceNoEntry
  split
  · rename_i q hq
    have held : checkHolds (historyBytes m p) = true := by
      unfold historyAt classifyHistory at hq
      split at hq
      · cases hq
      · split at hq
        · rename_i h; exact h.1
        · cases hq
    have lost : checkHolds (historyBytes (spoilRecord m (historyAddr p) 256) p) = false :=
      checkHolds_spoilRecord hw (by decide) held
    unfold historyAt classifyHistory
    split
    · simp
    · rw [if_neg (by simp [lost])]; simp
  · rename_i h; rw [h]; simp
  · rename_i h; rw [h]; simp

end Sys2Proof.Machine
end

