-- ==== Sys2Proof/Laws/Transmit.lean ====
section
/-! SUPPORT. What a joining frame and a raise can do to the transmit queue and to the fault unit. -/

namespace Sys2Proof.Machine

/-! ### The queue -/

theorem insertFrame_length (f : TxFrame) : ∀ q : List TxFrame, (insertFrame f q).length = q.length + 1
  | [] => rfl
  | g :: r => by
    unfold insertFrame
    split
    · rfl
    · simp [insertFrame_length f r]

theorem mem_insertFrame {f x : TxFrame} : ∀ {q : List TxFrame}, x ∈ insertFrame f q ↔ x = f ∨ x ∈ q
  | [] => by simp [insertFrame]
  | g :: r => by
    unfold insertFrame
    split
    · simp
    · simp only [List.mem_cons, mem_insertFrame (q := r)]
      tauto

/-- A frame joins an ordered list in order. -/
theorem insertFrame_ordered (f : TxFrame) : ∀ {q : List TxFrame}, Ordered q → Ordered (insertFrame f q)
  | [], _ => by simp [insertFrame, Ordered]
  | g :: r, h => by
    have h2 := List.pairwise_cons.mp h
    unfold insertFrame
    split
    · refine List.pairwise_cons.mpr ⟨?_, h⟩
      intro x hx
      rcases List.mem_cons.mp hx with rfl | hx
      · omega
      · exact Nat.le_trans (by omega) (h2.1 x hx)
    · refine List.pairwise_cons.mpr ⟨?_, insertFrame_ordered f h2.2⟩
      intro x hx
      rcases mem_insertFrame.mp hx with rfl | hx
      · omega
      · exact h2.1 x hx

theorem withoutLastSummary_sublist : ∀ {q r : List TxFrame}, withoutLastSummary q = some r → r.Sublist q ∧ r.length + 1 = q.length
  | [], _, h => by simp [withoutLastSummary] at h
  | f :: q, r, h => by
    unfold withoutLastSummary at h
    split at h
    · rename_i r' e
      have := withoutLastSummary_sublist e
      cases h
      exact ⟨this.1.cons_cons f, by simp [this.2]⟩
    · split at h
      · cases h; exact ⟨List.sublist_cons_self f q, rfl⟩
      · cases h

theorem Ordered.sublist {q r : List TxFrame} (h : Ordered q) (k : r.Sublist q) : Ordered r := List.Pairwise.sublist k h

/-- The queue of a bus: bounded, and ordered behind a head that keeps its place. -/
structure QueueSound (b : Bus) : Prop where
  bound  : b.queue.length ≤ 8
  free   : b.offer = .none → Ordered b.queue
  behind : b.offer ≠ .none → Ordered b.queue.tail

/-- The queue around its head, for an operation that keeps order and lengthens a list by `n`. -/
theorem aroundHead_sound {g : List TxFrame → List TxFrame} {o : Offer} {q : List TxFrame} {n : Nat}
    (hg : ∀ l, Ordered l → Ordered (g l)) (hl : ∀ l, (g l).length = l.length + n) (hn : o = .none → Ordered q)
    (ht : o ≠ .none → Ordered q.tail) :
    (aroundHead o g q).length = q.length + n ∧ (o = .none → Ordered (aroundHead o g q)) ∧
      (o ≠ .none → Ordered (aroundHead o g q).tail) := by
  have h0 : Ordered ([] : List TxFrame) := List.Pairwise.nil
  cases o with
  | none => exact ⟨hl q, fun _ => hg q (hn rfl), fun h => absurd rfl h⟩
  | offered =>
    cases q with
    | nil => exact ⟨hl [], fun h => (by cases h), fun _ => (hg [] h0).sublist (List.tail_sublist _)⟩
    | cons x r =>
      refine ⟨?_, fun h => (by cases h), fun _ => hg r (ht (by simp))⟩
      simp [aroundHead, hl]; omega
  | withdrawn =>
    cases q with
    | nil => exact ⟨hl [], fun h => (by cases h), fun _ => (hg [] h0).sublist (List.tail_sublist _)⟩
    | cons x r =>
      refine ⟨?_, fun h => (by cases h), fun _ => hg r (ht (by simp))⟩
      simp [aroundHead, hl]; omega

/-- A frame placed in a queue of fewer than 8 frames. -/
theorem placeFrame_sound {f : TxFrame} {b : Bus} (h : QueueSound b) (k : b.queue.length < 8) : QueueSound (placeFrame f b) := by
  have := aroundHead_sound (fun _ => insertFrame_ordered f) (insertFrame_length f) h.free h.behind
  exact ⟨by show (aroundHead _ _ _).length ≤ 8; omega, this.2.1, this.2.2⟩

theorem placeFrame_length (f : TxFrame) (b : Bus) : (placeFrame f b).queue.length = b.queue.length + 1 := by
  unfold placeFrame aroundHead
  split
  · exact insertFrame_length f _
  · simp_all [insertFrame]
  · simp_all [insertFrame_length]

/-- The removal that makes room takes one frame and keeps the rest in order. -/
theorem displaced_sound {b : Bus} {q : List TxFrame} (h : QueueSound b) (e : displaced b = some q) :
    q.length + 1 = b.queue.length ∧ QueueSound { b with queue := q } := by
  obtain ⟨h1, h2, h3⟩ := h
  unfold displaced at e
  split at e
  · rename_i o q' ho
    have := withoutLastSummary_sublist e
    exact ⟨this.2, by show q.length ≤ 8; omega, fun _ => (h2 ho).sublist this.1,
      fun k => absurd ho k⟩
  · cases e
  · rename_i x r hq ho
    obtain ⟨r', e1, rfl⟩ := Option.map_eq_some_iff.mp e
    have := withoutLastSummary_sublist e1
    have h3' : Ordered r := by simpa [hq] using h3 ho
    refine ⟨by simp [hq, this.2], ?_, fun k => absurd k ho, fun _ => h3'.sublist this.1⟩
    show r'.length + 1 ≤ 8
    rw [hq] at h1
    simp only [List.length_cons] at h1
    omega

/-- A frame that joins keeps the queue as R179 and R180 say it is. -/
theorem joinQueue_sound {f : TxFrame} {b : Bus} (h : QueueSound b) : QueueSound (joinQueue f b).1 := by
  unfold joinQueue
  split
  · exact placeFrame_sound h ‹_›
  · split
    · exact h
    · split
      · rename_i q e
        have k := displaced_sound h e
        refine placeFrame_sound k.2 ?_
        show q.length < 8
        have := h.bound
        omega
      · exact h

/-- Offering the head changes no frame of the queue. -/
@[simp] theorem offerHead_queue (s : State) : (offerHead s).bus.queue = s.bus.queue := by
  unfold offerHead
  split <;> rfl

@[simp] theorem offerHead_faults (s : State) : (offerHead s).faults = s.faults := by
  unfold offerHead
  split <;> rfl

/-! ### Raises -/

/-- While the link controller does not run, a raise is the record of it alone. -/
theorem raise_quiet {k : FaultKind} {i : Option Nat} {s : State} (h : linkRunning s = false) :
    raise k i s = recordRaise k i s := by
  have h2 : reportsRaise k s = false := by simp [reportsRaise, h]
  simp [raise, raiseFuel, h2]

/-- A raise of a kind that is set already is the record of it alone. -/
theorem raise_again {k : FaultKind} {i : Option Nat} {s : State} (h : statusOf s.faults k = true) :
    raise k i s = recordRaise k i s := by
  have h2 : reportsRaise k s = false := by simp [reportsRaise, h]
  simp [raise, raiseFuel, h2]

end Sys2Proof.Machine
end

