-- ==== Sys2Proof/WellFormed.lean ====
section
/-! DEFINITION. When a command is one the outside world can send. -/

namespace Sys2Proof

/-- A frame of 0 to 8 data bytes whose identifier fits its format (01, section 1.1; R6). -/
def Frame.wellFormed (f : Frame) : Bool :=
  decide (f.data.length ≤ 8) && decide (f.ident ≤ if f.ext then 0x1FFFFFFF else 0x7FF)

/-- Parameters that fit behind a request code in a frame of at most 8 bytes (R195). -/
def paramsWellFormed (params : List Byte) : Bool := decide (params.length ≤ 7)

/-- The request codes of R190 to R192. -/
def knownCode (c : Byte) : Bool := decide (1 ≤ c.toNat) && decide (c.toNat ≤ 14)

/-- The data of an UNKNOWN_REQUEST_CODE: no byte, or a first byte that is none of the fourteen codes (R188). -/
def unknownWellFormed (data : List Byte) : Bool :=
  decide (data.length ≤ 8) &&
    match data with
    | [] => true
    | c :: _ => !knownCode c

/-- Differing bytes that lie inside a region of `len` bytes. -/
def Deviation.within (dev : Deviation) (len : Nat) : Bool := dev.all fun p => decide (p.1 < len)

/-- A command that the outside world can send. A cut leaves bytes changed inside the largest region an operation
writes, blocks 1 to 4. -/
def Instr.wellFormed : Instr → Bool
  | .supplyLoss cut => Deviation.within cut 8192
  | .reset cut => Deviation.within cut 8192
  | .frameArrival f _ => f.wellFormed
  | .checkpointCompletion dev => Deviation.within dev 4096
  | .historyWriteCompletion dev _ => Deviation.within dev 256
  | .configWriteCompletion dev => Deviation.within dev 4
  | .wipeCompletion dev => Deviation.within dev 8192
  | .readSignal p => paramsWellFormed p
  | .readChannel p => paramsWellFormed p
  | .readComponent p => paramsWellFormed p
  | .readSpectrum p => paramsWellFormed p
  | .readHistory p => paramsWellFormed p
  | .readFaults p => paramsWellFormed p
  | .readConfig p => paramsWellFormed p
  | .ackFaults p => paramsWellFormed p
  | .presetChannel p => paramsWellFormed p
  | .closeComponent p => paramsWellFormed p
  | .setIdentity p => paramsWellFormed p
  | .checkpointNow p => paramsWellFormed p
  | .wipeHistory p => paramsWellFormed p
  | .writeConfig p => paramsWellFormed p
  | .unknownRequestCode d => unknownWellFormed d
  | .supplyApplied | .layoutChangeClose | .loadingEnd | .ignLineChange _ _ | .wakeLineActive _
  | .settleTimerExpiry | .supplyWarning _ | .quietTimerExpiry | .frameTaken | .accountingTick
  | .sourceTimerExpiry | .channelSample _ | .tickStep | .stallTimerExpiry | .countedEdge _ _
  | .windowEnd _ | .linkStateChange _ | .frameSent | .burstFeed | .keyCycleNoticeFeed
  | .summaryTimerExpiry | .statusTimerExpiry | .checkpointIntervalExpiry | .checkpointBegin
  | .presetApplication _ | .historyWriteBegin | .deferredCloseRetry
  | .historyReadBegin | .historyReadCompletion | .configReadBegin | .configReadCompletion
  | .configWriteBegin | .wipeBegin => true

end Sys2Proof
end

