-- ==== Sys2Proof/Tests/Slice0.lean ====
section
/-! SUPPORT. Tests: ill-formed commands, worked examples of the spec, and witnesses for the hypotheses of the statements. -/

namespace Sys2Proof.Tests

-- The kernel evaluations run one after another: together they would ask for more threads than memory allows.
set_option Elab.async false

open Sys2Proof.Machine

/-! ### Ill-formed commands -/

theorem test_illformed_long_frame :
    Instr.wellFormed (.frameArrival { ext := false, ident := 1, data := List.replicate 9 0 } false) = false := by decide
theorem test_illformed_short_identifier :
    Instr.wellFormed (.frameArrival { ext := false, ident := 0x800, data := [] } false) = false := by decide
theorem test_illformed_long_identifier :
    Instr.wellFormed (.frameArrival { ext := true, ident := 0x20000000, data := [] } false) = false := by decide
theorem test_illformed_parameters : Instr.wellFormed (.readFaults (List.replicate 8 0)) = false := by decide
theorem test_illformed_unknown_code : Instr.wellFormed (.unknownRequestCode [14]) = false := by decide
theorem test_illformed_unknown_length :
    Instr.wellFormed (.unknownRequestCode (15 :: List.replicate 8 0)) = false := by decide
theorem test_illformed_cut : Instr.wellFormed (.supplyLoss [(8192, 0)]) = false := by decide
theorem test_illformed_reset_cut : Instr.wellFormed (.reset [(0, 1), (8192, 0)]) = false := by decide
theorem test_illformed_slot_bytes : Instr.wellFormed (.checkpointCompletion [(4096, 0)]) = false := by decide
theorem test_illformed_word_bytes : Instr.wellFormed (.configWriteCompletion [(4, 0)]) = false := by decide
theorem test_illformed_entry_bytes : Instr.wellFormed (.historyWriteCompletion [(256, 0)] true) = false := by decide
theorem test_illformed_wipe_bytes : Instr.wellFormed (.wipeCompletion [(8192, 0)]) = false := by decide
theorem test_wellformed_request : Instr.wellFormed (.writeConfig [0, 0, 1, 2, 3, 4]) = true := by decide
theorem test_word_spells_nothing : decodeTableWord 8 1 = none := by decide

/-! ### Helpers -/

/-- A check of the next state of a command. -/
def after (c : Instr) (s : State) (p : State → Bool) : Bool :=
  match exec c s with
  | .next t => p t
  | .fault _ => false
  | .refused _ => false

/-- A map entry of 8 bits at byte 0 for a signal. -/
def entry (target : Sig) : MapEntry :=
  { ext := true, ident := 0x0CF00400, target := target, start := 3, bitOffset := 0, len := 16, bigEndian := false,
    gain := 32, shift := 8, offset := 0, timeout := 5, hold := 10, prio := 1 }

/-- Channel C2 of 4.11, first sequence, bound to pulse unit A. -/
def chanC2 : ChanCfg :=
  { slot := 0, term1 := { signal := sEngineLoad, low := 40, high := 125 }, term2 := none, policy := .closed,
    qualify := 3, separation := 4, weight := .constant 256, factor := none, revSource := some .a, basis := .hours,
    threshold := 2000 }

/-- The start unit with the defaults of 5.8. -/
def startCfg : StartCfg :=
  { engine := 0, starter := some 1, run := 400, stop := 150, confirm := 20, stopTicks := 10, crankLimit := 300,
    cold := 5, stall := 600 }

/-- Unit A of 2.4. -/
def unitA : PulseCfg :=
  { status := .hasSource, edge := .rising, teeth := 40, target := sPropSpeed, prio := 0, timeout := 20, hold := 0,
    wakeEnable := true, tolerance := 5 }

/-- A configuration with one entry, one channel, a start unit, a spectrum unit and pulse unit A. -/
def fullCfg : RunConfig :=
  { RunConfig.fallbackConfig with
    fallback := false, layout := 7, station := 3
    entries := (Vector.replicate 24 none).set 0 (some (entry sPropSpeed))
    identity := (Vector.replicate 12 none).set 4 (some { ext := true, ident := 5, offset := 0 })
    classes := (((Vector.replicate 12 none).set 0 (some .engine)).set 1 (some .starter)).set 4 (some .gearbox)
    bands := ((((Vector.replicate 10 .absent).set 2 (.valid [800, 1400, 1900, 2300])).set 3
      (.valid [25, 50, 75, 100])).set 4 (.valid [70, 95, 105]))
    maps := (Vector.replicate 6 .absent).set 1
      (.valid sEngineSpeed 2 sEngineLoad 3 320 ((Vector.replicate 64 1).set 19 448))
    factors := (Vector.replicate 3 .absent).set 0
      (.valid sCoolantTemp 4 ((Vector.replicate 8 256).set 2 307))
    channels := (Vector.replicate 24 none).set 2 (some chanC2)
    spectra := (Vector.replicate 4 none).set 0 (some { owner := 2, axes := some (sEngineSpeed, 2, sEngineLoad, 3) })
    pulseA := unitA, start := some startCfg }

/-- The channel's record at the start of 4.11, first sequence. -/
def recC2 : Channel :=
  { Channel.disabled with state := .idle, hourPre := 357, hours := 1000, wearAcc := 91900, wear := 800, episodes := 12 }

/-- A part in a power state under the full configuration. -/
def full (p : PowerState) : State :=
  { State.reset with
    cfg := fullCfg
    power := { Power.initial with state := p, ramValid := true, quietRunning := true, quietCount := 50, settle := true }
    pulseA := { PulseUnit.initial with prescaler := 39, lifetime := 1812004, running := true }
    chans := (Vector.replicate 24 Channel.disabled).set 2 recC2
    comps :=
      { State.reset.comps with
        slots := ((Vector.replicate 12 Component.zero).set 0
          { Component.zero with state := .present, tallies := .engine { EngineTallies.zero with attempts := 210, starts := 200, failed := 7, unresolved := 3, cold := 41, stalls := 2 } }).set 1
          { Component.zero with state := .present, tallies := .starter { StarterTallies.zero with engagements := 260, crankTicks := 5400 } } }
    faults := FaultUnit.initial }

/-- A signal of the board replaced. -/
def see (i : Sig) (st : SigState) (v : Int) (s : State) : State :=
  { s with cap := { s.cap with board := s.cap.board.set i { value := v, state := st, active := none } } }

/-- A source replaced. -/
def source (i : Src) (x : Source) (s : State) : State :=
  { s with cap := { s.cap with sources := s.cap.sources.set i x } }

/-- A frame of the part's own with an origin, at an identifier kind. -/
def tx (k : TxKind) (o : Origin) (d : Byte) : TxFrame := formFrame fullCfg k o [d]

/-! ### Signal capture (1.3) -/

theorem test_decode_engine_speed : decodeField (entry 0) [0, 0, 0, 0x90, 0x33, 0, 0, 0] = .good 1650 := by decide +kernel
theorem test_decode_not_available : decodeField (entry 0) [0, 0, 0, 0xFF, 0xFF] = .notAvailable := by decide +kernel
theorem test_decode_error : decodeField (entry 0) [0, 0, 0, 0xFE, 0xFF] = .error := by decide +kernel
theorem test_decode_short_frame : decodeField (entry 0) [0, 0, 0, 0x90] = .noFit := by decide +kernel
theorem test_decode_gear_clamped :
    decodeField { entry sGear with start := 5, len := 8, gain := 1, shift := 0, offset := -125 }
      [0, 0, 0, 0, 0, 3, 0, 0] = .good (-2) := by decide +kernel
theorem test_decode_key_state :
    decodeField { entry sKeyState with start := 0, bitOffset := 2, len := 2, gain := 1, shift := 0 } [0x0C] = .good 3 := by
  decide +kernel
theorem test_decode_big_endian :
    decodeField { entry sPropSpeed with start := 1, bitOffset := 4, len := 12, bigEndian := true, gain := 1, shift := 0 }
      [0, 0x4B, 0x0C] = .good 1200 := by decide +kernel

/-! ### Pulse units (2.2 to 2.4) -/

theorem test_edge_wraps :
    after (.countedEdge .a true) (full .active) (fun t => decide (t.pulseA.prescaler = 0 ∧ t.pulseA.lifetime = 1812005)) =
      true := by decide +kernel
theorem test_edge_of_other_kind :
    after (.countedEdge .a false) (full .active) (fun t => decide (t.pulseA.prescaler = 39)) = true := by decide +kernel
theorem test_window_speed : windowSpeed unitA 826 = 1239 := by decide +kernel
theorem test_speeds_disagree : speedsDisagree 5 1200 1290 = true ∧ speedsDisagree 5 1320 1330 = false ∧
    speedsDisagree 5 240 280 = false := by decide +kernel

/-! ### Weights and wear (3.1, 3.8) -/

theorem test_bands : bandOf [800, 1400, 1900, 2300] 650 = 0 ∧ bandOf [800, 1400, 1900, 2300] 801 = 1 ∧
    bandOf [800, 1400, 1900, 2300] 2300 = 3 ∧ bandOf [800, 1400, 1900, 2300] 8000 = 4 ∧ bandOf [70, 95, 105] (-40) = 0 := by
  decide +kernel
theorem test_weight_of_sample :
    (weigh fullCfg (see sCoolantTemp .held 104 (see sEngineLoad .fresh 82 (see sEngineSpeed .fresh 1650 (full .active)))).cap.board
      { chanC2 with weight := .map 1, factor := some 0 } false).weight = 537 := by decide +kernel
theorem test_weight_with_lost_signals :
    (let w := weigh fullCfg (see sCoolantTemp .stale 104 (see sEngineLoad .stale 82 (see sEngineSpeed .fresh 1650 (full .active)))).cap.board
      { chanC2 with weight := .map 1, factor := some 0 } false
     w.weight = 320 ∧ w.estimated = true) := by decide +kernel
theorem test_pending_tally_credited : addWear 7100 50000 (3276750 + 65535) = (7136, 74525) := by decide +kernel
theorem test_wear_saturates : addWear 4294967280 40000 1500000 = (4294967295, 0) := by decide +kernel

/-! ### Wear channels (4.11) -/

/-- C2 with three pended samples and an open gate. -/
def beforeS5 : State :=
  see sEngineLoad .fresh 60
    ((full .active).setChan 2 { recC2 with state := .qualifying, lastOpen := true, qualify := 3, pendTicks := 3, pendWeight := 768 })

theorem test_channel_qualifies :
    after (.channelSample 2) beforeS5 (fun t =>
      let ch := t.chans[(2 : Fin 24)]
      decide (ch.state = .running ∧ ch.hourPre = 1 ∧ ch.hours = 1001 ∧ ch.wearAcc = 764 ∧ ch.wear = 801 ∧ ch.episodes = 13)) =
      true := by decide +kernel
theorem test_channel_discards :
    after (.channelSample 2) (see sEngineLoad .fresh 10 beforeS5) (fun t =>
      let ch := t.chans[(2 : Fin 24)]
      decide (ch.state = .idle ∧ ch.pendTicks = 0 ∧ ch.hourPre = 357 ∧ ch.wearAcc = 91900)) = true := by decide +kernel
theorem test_preset_applied :
    (let ch := applyPreset { quantity := .wear, value := 0, base := 152300 } { recC2 with wear := 152306 }
     ch.wear = 6 ∧ ch.hours = 1000) := by decide +kernel

/-! ### Start unit (5.8) -/

/-- CONFIRMING with 19 ticks done. -/
def confirming : State :=
  ({ full .active with start := { StartUnit.initial with state := .confirming, temp := .cold, confirm := 19 } }).setSlot 0
    { Component.zero with tallies := .engine { EngineTallies.zero with attempts := 212, starts := 200, failed := 8, unresolved := 3, cold := 41, stalls := 2, openMark := true } }

theorem test_start_confirmed :
    after .tickStep confirming (fun t =>
      decide (t.start.state = .running ∧ t.start.stallRunning = true ∧
        t.comps.slots[(0 : Fin 12)].tallies = .engine { attempts := 212, starts := 201, failed := 8, unresolved := 3, cold := 42, stalls := 2, openMark := false })) =
      true := by decide +kernel
theorem test_stall_counted :
    after .tickStep
      (see sEngineSpeed .fresh 90 { full .active with start := { StartUnit.initial with state := .running, stop := 9, stallRunning := true, stallCount := 54 } })
      (fun t => decide (t.start.state = .off ∧
        t.comps.slots[(0 : Fin 12)].tallies = .engine { EngineTallies.zero with attempts := 210, starts := 200, failed := 7, unresolved := 3, cold := 41, stalls := 3 })) =
      true := by decide +kernel

/-! ### Spectrum units (6.9) -/

/-- The record at the start of 6.9. -/
def unit0 : Spectrum :=
  { Spectrum.zero with
    bins := ((((Vector.replicate 64 0).set 19 16777215).set 18 9000001).set 9 5).set 0 1
    scale := 2, divider := 3, unclassified := 40000 }

theorem test_spectrum_rescales :
    (let r := (spectrumSample fullCfg (see sEngineLoad .fresh 82 (see sEngineSpeed .fresh 1650 (full .active))).cap.board
        { owner := 2, axes := some (sEngineSpeed, 2, sEngineLoad, 3) } unit0).1
     r.scale = 3 ∧ r.divider = 0 ∧ r.bins[0] = 0 ∧ r.bins[9] = 2 ∧ r.bins[18] = 4500000 ∧ r.bins[19] = 8388608 ∧
       r.unclassified = 40000) := by decide +kernel

/-! ### Components and history (7.8, 12.5) -/

/-- Slot 4 of 7.8 after frame f8. -/
def slot4 : Component :=
  { state := .candidate, identity := some 0x0051A2C0, candidate := some 0x0051C001, confirm := 2, generation := 6,
    install := 3120, tallies := .none }

/-- The part of 7.8, first sequence. -/
def gearbox : State :=
  { (full .active).setSlot 4 slot4 with power := { (full .active).power with keyCycles := 3184 } }

theorem test_identity_closes :
    (let t := identityField 4 .gearbox 0x0051C001 { gearbox with comps := { gearbox.comps with nextSeq := 1207 } }
     let r := t.comps.slots[(4 : Fin 12)]
     r.state = .present ∧ r.identity = some 0x0051C001 ∧ r.generation = 7 ∧ r.install = 3184 ∧ t.comps.nextSeq = 1208 ∧
       t.comps.queue.map (fun e => (e.seq, e.identity, e.install, e.closeKey)) =
         [(1207, some 0x0051A2C0, 3120, 3184)]) := by decide +kernel
theorem test_identity_not_available : identityField 4 .gearbox 0xFFFFFFFF gearbox = gearbox := by decide +kernel

/-- A history entry of the gearbox. -/
def gearEntry : HistEntry :=
  { seq := 1207, slot := 4, cls := .gearbox, identity := some 0x0051A2C0, generation := 6, install := 3120,
    closeKey := 3184, reason := .identityChange, chans := [noChan], tallies := .none }

theorem test_entry_position : classifyHistory 23 (encodeEntry [0, 0, 0, 0] gearEntry) = .valid 1207 := by decide +kernel
theorem test_entry_bytes :
    (encodeEntry [0, 0, 0, 0] gearEntry).take 23 =
      [0xB7, 4, 0, 0, 4, 3, 4, 1, 0xC0, 0xA2, 0x51, 0, 6, 0, 0x30, 0x0C, 0, 0, 0x70, 0x0C, 0, 0, 0xFF] := by decide +kernel

/-! ### Bus traffic (11.9, 12.1) -/

/-- The queue of 11.9 after S3 has been sent: R1 offered, three frames of the burst not yet fed. -/
def burst119 : State :=
  { full .active with
    bus :=
      { Bus.initial with
        gate := true, offer := .offered, slot := .sending, fed := 1
        burst := [tx .response .burst 1, tx .response .burst 2, tx .response .burst 3, tx .response .burst 4]
        queue := [tx .response .burst 1, tx .response .busy 0, tx .notice .notice 1, tx .notice .notice 2,
          tx .notice .notice 3, tx .status .status 0, tx .summary .summary 4] } }

theorem test_burst_fed_behind_busy :
    after .frameSent burst119 (fun t =>
      decide (t.bus.queue.take 2 = [tx .response .busy 0, tx .response .burst 2] ∧ t.bus.queue.length = 7 ∧ t.bus.fed = 2 ∧
        t.bus.sent = 1 ∧ t.bus.offer = .offered)) = true := by decide +kernel
theorem test_full_queue_drops_summary :
    (joinQueue (tx .notice .notice 9) { burst119.bus with queue := burst119.bus.queue ++ [tx .summary .summary 5] }).1.queue.map
      (·.data) = [[1], [0], [1], [2], [3], [9], [0], [4]] := by decide +kernel
theorem test_fallback_identifiers :
    [TxKind.response, .notice, .status, .summary].map (txIdent RunConfig.fallbackConfig) =
      [0x18F0001F, 0x18F0002F, 0x18F0003F, 0x18F0004F] := by decide +kernel

/-! ### The configuration image (12.5) -/

/-- Bytes of an image, written from Table 12-3: one map entry, the class of slot 0, one band table, one channel. -/
def imageBytes : List Host.Cell :=
  [(22, [0, 4, 0xF0, 0x2C, 10, 3, 0x10, 32, 0, 8, 0, 0, 5, 10, 1]), (442, [0]), (454, [2, 0x20, 3, 0x78, 5]),
    (1462, [0x21, 0, 1, 40, 0, 125, 0, 0xFF, 0xFF, 0xFF, 0xFF, 0xFF, 3, 4, 0, 0, 1, 0xFF, 0xD0, 7, 0, 0])].foldl
    (fun m f => memWriteBytes m f.1 f.2) []

/-- R156 with assumption log 39: slot 3 with class and identity source out of range raises twice, and slot 0 not at all. -/
theorem test_image_counts :
    (let l := (checkImage (imageOf (memWriteBytes (memWriteBytes imageBytes 445 [9]) 397 [0, 8, 0, 0, 0]))).2
     l.count 83 = 2 ∧ l.count 80 = 0 ∧ l.count 92 = 1) := by decide +kernel
theorem test_image_entry : checkEntry (imageOf imageBytes) 0 = (some (entry sPropSpeed), []) := by decide +kernel
theorem test_image_class : checkClass (imageOf imageBytes) 0 = (some .engine, []) := by decide +kernel
theorem test_image_band : checkBand (imageOf imageBytes) 0 = (.valid [800, 1400], []) := by decide +kernel
theorem test_image_channel :
    channelItems (imageOf imageBytes) fullCfg.classes fullCfg.maps fullCfg.factors (Vector.replicate 24 none) 1462 =
      some chanC2 := by decide +kernel

/-! ### The journal (8.3, 8.4) -/

/-- A checkpoint in slot 4: layout 7, sequence 9, key-cycle count 77, an empty queue, next sequence 0, every byte between
them 0xFF, and the check word. -/
def slotRecord : List Host.Cell :=
  [(0, 7), (1, 0), (2, 9), (3, 0), (4, 0), (5, 0), (7, 77), (8, 0), (9, 0), (10, 0), (2049, 0), (2570, 0), (2571, 0),
    (2572, 0), (2573, 0), (4094, 0xE8), (4095, 0xB9)].map fun c => (0x6800 + c.1, c.2)

/-- An image of version 1 with a layout number and its check word, and nothing else. -/
def withImage (layout check : List Byte) (m : List Host.Cell) : List Host.Cell :=
  memWriteBytes (memWriteBytes m 2046 check) 0 ([1, 0] ++ layout)

/-- Stores with that checkpoint and an image, of another layout and of the same one. -/
def stored : State := { State.reset with nvm := withImage [8, 0] [0xF4, 3] slotRecord }
def sameLayout : State := { State.reset with nvm := withImage [7, 0] [0xF5, 3] slotRecord }

theorem withImage_slots (layout check : List Byte) (m : List Host.Cell) (h : layout.length = 2) (k : check.length = 2)
    (j : Fin 11) : slotBytes (withImage layout check m) j = slotBytes m j := by
  rw [withImage, slotBytes_memWriteBytes_other (by left; simp [h, slotAddr]; omega),
    slotBytes_memWriteBytes_other (by left; simp [k, slotAddr]; omega)]

theorem test_slots_classified : ∀ k : Fin 11, slotAt slotRecord k = if k = 4 then .valid 9 else .blank := by
  decide +kernel
theorem test_slot_torn : slotAt (memWrite slotRecord 0x6900 0) 4 = .torn := by decide +kernel
theorem test_slot_items : (checkpointAt slotRecord 4).keyCycles = 77 ∧ (checkpointAt slotRecord 4).layout = 7 ∧
    (checkpointAt slotRecord 4).orderly = true ∧ (checkpointAt slotRecord 4).queue = [] := by decide +kernel

/-- The selection among those slots, and among blank ones. -/
theorem test_slot_selected : (selectCheckpoint slotRecord).map (·.1) = some 4 := by
  have h : betterSlot slotRecord = fun b j => match (if j = 4 then .valid 9 else .blank : RecordClass), b with
      | .blank, b => b | .torn, b => b | .valid seq, none => some (j, seq)
      | .valid seq, some b => if b.2 < seq then some (j, seq) else some b := by
    funext b j; unfold betterSlot; rw [test_slots_classified]; all_goals rfl
  simp only [selectCheckpoint, selectSlot, h, Option.map_map]
  rfl
theorem test_blank_slots : ∀ k : Fin 11, slotAt [] k = .blank := by decide +kernel
theorem test_none_selected : selectCheckpoint [] = none := by
  have h : betterSlot [] = fun b _ => b := by funext b j; unfold betterSlot; rw [test_blank_slots]
  simp only [selectCheckpoint, selectSlot, h]
  rfl

/-! ### The ACTIVE entry (5.6) -/

/-- CLOSING with STARTER_ENGAGED 1, crank indication off before, and attempts at their maximum. -/
def cranked : State :=
  (see sStarterEngaged .fresh 1 (full .closing)).setSlot 0
    { Component.zero with tallies := .engine { EngineTallies.zero with attempts := max32, starts := max32 } }

theorem test_entry_evaluates_once :
    after (.ignLineChange true false) cranked (fun t =>
      decide (t.power.state = .active ∧ t.start.lastCrank = true ∧
        t.comps.slots[(1 : Fin 12)].tallies = .starter { StarterTallies.zero with engagements := 261, crankTicks := 5400 })) =
      true := by decide +kernel

/-! ### The board, the key cycle and SIG_STALE (1.5, 9.5, 10.2) -/

theorem test_ign_opens_key_cycle :
    after (.ignLineChange true false) (full .active) (fun t =>
      decide (t.cap.board[sKeyState] = { value := 2, state := .fresh, active := some 26 } ∧ t.power.keyOpen = true ∧
        t.power.keyCycles = 1)) = true := by decide +kernel
theorem test_ign_ends_key_cycle :
    (let s := see sKeyState .fresh 2 (full .closing)
     after (.ignLineChange false false)
      { s with lines := { s.lines with ign := true }, power := { s.power with keyOpen := true, keyCycles := 8 } } (fun t =>
      decide (t.cap.board[sKeyState].value = 0 ∧ t.power.keyOpen = false ∧ t.power.keyCycles = 8))) = true := by decide +kernel

/-- Entry 0 gives ENGINE_LOAD, HELD with its hold timer at the limit; ENGINE_SPEED is FRESH and CLUTCH_SLIP follows it. -/
def goingStale : State :=
  let s := source 0 { Source.initial with state := .held, value := 40, hold := some 10 } (see sEngineLoad .held 40 (full .active))
  { s with cfg := { s.cfg with entries := (Vector.replicate 24 none).set 0 (some (entry sEngineLoad)) } }

theorem test_stale_raised :
    after .sourceTimerExpiry goingStale (fun t =>
      decide (t.cap.board[sEngineLoad] = { value := 40, state := .stale, active := some 0 } ∧
        t.faults.sigStale = some (some 1) ∧ countOf t .sigStale = 1)) = true := by decide +kernel
theorem test_frame_moves_board :
    after .frameTaken { full .active with cap := { (full .active).cap with rx :=
        [{ ext := true, ident := 0x0CF00400, data := [0, 0, 0, 0x90, 0x33, 0, 0, 0] }] } } (fun t =>
      decide (t.cap.board[sPropSpeed] = { value := 1650, state := .fresh, active := some 0 })) = true := by decide +kernel

/-! ### Witnesses: states and operands that meet the hypotheses of the statements, clause by clause -/

/-- The port FREE and nothing waiting, or the operation in flight. -/
def port (op : Option StoreOp) (s : State) : State := { s with store := { s.store with port := op } }

/-- The request slot replaced. -/
def slot (x : ReqSlot) (s : State) : State := { s with bus := { s.bus with slot := x } }

/-- A transmit queue of `n` frames behind an offered head. -/
def queued (n : Nat) (s : State) : State :=
  { s with bus := { s.bus with gate := true, offer := .offered, queue := List.replicate n (tx .notice .notice 7) } }

/-- The start unit in a state. -/
def unit (x : StartState) (s : State) : State :=
  { s with start := { StartUnit.initial with state := x, lastCrank := true, stallRunning := true } }

/-- C2 in a state. -/
def c2 (x : ChanState) (s : State) : State :=
  s.setChan 2 { recC2 with state := x, qualify := if x = .qualifying then 3 else 0, linger := if x = .lingering then 3 else 0, due := x = .lingering }

theorem witness_StepTakesFront : { State.reset with pending := [.tickStep] }.pending = .tickStep :: [] ∧
    State.reset.pending = [] := by decide +kernel
theorem witness_ConfigurationAndInputsKept : ∃ t, exec .supplyApplied State.reset = .next t := ⟨_, rfl⟩
theorem witness_PowerStateMoves :
    after .settleTimerExpiry (full .waking) (fun t => decide (t.power.state ≠ .waking)) = true ∧
    after .quietTimerExpiry (full .active) (fun t => decide (t.power.state = .closing)) = true := by decide +kernel

/-- A part in ACTIVE with a history write in flight, a queue and an offered head, and a checkpoint in the journal. -/
def busy : State :=
  driveLines
    { slot (.waitingStore (.writeConfig 511 [1, 2, 3, 4]) false)
        (queued 2 (port (some (.historyWrite gearEntry (encodeEntry [0, 0, 0, 0] gearEntry))) (full .active))) with
      pending := [.accountingTick, .frameSent]
      store := { (port (some (.historyWrite gearEntry (encodeEntry [0, 0, 0, 0] gearEntry))) (full .active)).store with
        newest := some 4, newestSeq := 9, lastIssued := 9 }
      nvm := withImage [8, 0] [0xF4, 3] slotRecord }

theorem witness_StoreSound : StoreSound busy :=
  { bytes := by decide +kernel
    port := by
      intro op h
      obtain rfl : StoreOp.historyWrite gearEntry (encodeEntry [0, 0, 0, 0] gearEntry) = op := Option.some.inj h
      show (encodeEntry [0, 0, 0, 0] gearEntry).length ≤ 256
      decide +kernel
    slot := by
      intro req begun h
      obtain ⟨rfl, rfl⟩ := ReqSlot.waitingStore.inj h
      exact ⟨by decide, by decide⟩
    wipe := by decide +kernel }
theorem witness_LinesFollow : LinesFollow busy :=
  { stby := by decide +kernel
    fault := by
      have clear : ∀ k : FaultKind, statusOf busy.faults k = false := by intro k; cases k <;> rfl
      refine iff_of_false (by decide +kernel) fun h => ?_
      obtain ⟨k, hk, _⟩ := h.2
      rw [clear] at hk; cases hk
    due := by decide +kernel }
theorem witness_TransmitSound : TransmitSound busy :=
  { bound := by decide +kernel
    free := fun h => absurd h (by decide +kernel)
    behind := fun _ => by unfold Ordered; decide +kernel
    offered := by decide +kernel }
theorem witness_step_answers : busy.bus.offer = .offered ∧ ∃ t, step busy = .next t := ⟨rfl, _, rfl⟩
theorem witness_QueuesSound : QueuesSound busy :=
  { rx := by decide +kernel
    queue := by decide +kernel
    journal := fun _ => decodeCheckpoint_queue _
    flight := by intro k c h; cases h }
theorem witness_FlagsSound : FlagsSound busy := by
  have none_but : ∀ c : Fin 24, c ≠ 2 → busy.cfg.channels[c] = none ∧ busy.chans[c] = Channel.disabled ∧
      busy.faults.dueSet[c] = false := by decide +kernel
  constructor
  · intro c cc h
    by_cases e : c = 2
    · subst e
      obtain rfl : chanC2 = cc := Option.some.inj h
      decide +kernel
    · rw [(none_but c e).1] at h; cases h
  · intro c h
    by_cases e : c = 2
    · subst e; cases h
    · exact (none_but c e).2

/-- The slots of the journal of `busy`. -/
theorem busy_slots (k : Fin 11) : slotAt busy.nvm k = if k = 4 then .valid 9 else .blank := by
  rw [← test_slots_classified, slotAt, slotAt]
  exact congrArg _ (withImage_slots _ _ _ rfl rfl k)

theorem witness_NewestSound : NewestSound busy :=
  { held := by
      intro j h
      obtain rfl : 4 = j := Option.some.inj h
      rw [busy_slots]; rfl
    top := by
      intro _ k seq h
      rw [busy_slots] at h
      split at h
      · obtain rfl : 9 = seq := RecordClass.valid.inj h
        decide +kernel
      · cases h
    issued := by decide +kernel
    spared := by intro j k c _ h; cases h
    flight := by intro k c h; cases h }
theorem witness_TalliesSound : TalliesSound (full .active) := by
  have other : ∀ i : Fin 12, i ≠ 0 → i ≠ 1 → (full .active).comps.slots[i].tallies = .none := by decide +kernel
  refine ⟨?_, ?_, ?_, ?_, ?_⟩
  · intro i t h
    by_cases e : i = 0
    · subst e
      obtain rfl := Tallies.engine.inj h
      refine ⟨by unfold Sys2Proof.Balanced; decide +kernel, by decide, ?_⟩
      rintro ⟨sc, _, _, k⟩
      exact absurd k (by decide +kernel)
    · by_cases f : i = 1
      · subst f; cases h
      · rw [other i e f] at h; cases h
  · intro sc h
    obtain rfl : startCfg = sc := Option.some.inj h
    exact ⟨_, rfl⟩
  · intro h; cases h
  · intro j seq h; rw [show (full .active).nvm = [] from rfl, test_blank_slots] at h; cases h
  · intro k c h; cases h
theorem witness_StoppedLinkSound : linkRunning (full .parked) = false ∧ (full .parked).bus.queue = [] ∧
    (full .parked).bus.slot = .idle := by decide +kernel

theorem witness_StoreChangesOnlyInFlight : StoreSound busy ∧
    after (.historyWriteCompletion [] false) busy (fun t => decide (memRead t.nvm 0x1F00 ≠ memRead busy.nvm 0x1F00)) = true :=
  ⟨witness_StoreSound, by decide +kernel⟩
theorem witness_ImageCheckedOrFallsBack : recordBlank (memSlice State.reset.nvm 0 2048) = true ∧
    recordBlank (memSlice stored.nvm 0 2048) = false ∧ wordSum (memSlice stored.nvm 0 2048) % 65536 = 0 ∧
    leNat ((memSlice stored.nvm 0 2048).take 2) = 1 ∧ wordSum (memSlice (memWrite stored.nvm 9 0) 0 2048) % 65536 ≠ 0 := by
  decide +kernel
theorem witness_StoredRecordsLoaded :
    ((readImage stored.nvm).1.fallback = false ∧ (readImage stored.nvm).1.layout ≠ 7) ∧
    ((readImage sameLayout.nvm).1.fallback = false ∧ (readImage sameLayout.nvm).1.layout = 7) ∧
    (readImage (withImage [7, 0] [0xF5, 3] [])).1.fallback = false ∧ (readImage State.reset.nvm).1.fallback = true := by
  decide +kernel
theorem witness_StoredRecordsLoaded_selected :
    (selectCheckpoint stored.nvm).map (·.1) = some 4 ∧ (selectCheckpoint sameLayout.nvm).map (·.1) = some 4 ∧
    selectCheckpoint (withImage [7, 0] [0xF5, 3] []) = none ∧ selectCheckpoint State.reset.nvm = none := by
  have same : ∀ (l c : List Byte) (m : List Host.Cell), l.length = 2 → c.length = 2 →
      selectCheckpoint (withImage l c m) = selectCheckpoint m :=
    fun l c m h k => selectCheckpoint_congr (withImage_slots l c m h k)
  exact ⟨(congrArg _ (same [8, 0] [0xF4, 3] slotRecord rfl rfl)).trans test_slot_selected,
    (congrArg _ (same [7, 0] [0xF5, 3] slotRecord rfl rfl)).trans test_slot_selected,
    (same _ _ [] rfl rfl).trans test_none_selected, test_none_selected⟩
theorem witness_SupplyLossCuts : (full .active).power.state ≠ .unsupplied ∧ busy.store.port ≠ none := by decide +kernel
theorem witness_ResetRestarts : (full .active).power.ramValid = true ∧ State.reset.power.ramValid = false ∧
    State.reset.power.state ≠ .unsupplied := by decide +kernel
theorem witness_ResetRestarts_attempt : attemptOpen confirming.start.state = true ∧ confirming.cfg.start = some startCfg ∧
    (∃ k, confirming.comps.slots[startCfg.engine].tallies = .engine k ∧ k.unresolved = 3) ∧
    attemptOpen (full .active).start.state = false ∧ (1 : Fin 12) ≠ startCfg.engine :=
  ⟨rfl, rfl, ⟨_, rfl, rfl⟩, rfl, by decide⟩
/-- R90: an attempt left open at CLOSING entry is unresolved. -/
theorem test_attempt_ended :
    after .quietTimerExpiry confirming (fun t =>
      decide (t.start.state = .off ∧ t.comps.slots[(0 : Fin 12)].tallies =
        .engine { EngineTallies.zero with attempts := 212, starts := 200, failed := 8, unresolved := 4, cold := 41, stalls := 2 })) =
      true := by decide +kernel
/-- A part with a key cycle open, IGN low and the WAKE line active. -/
def keyed : State :=
  source 26 { Source.initial with state := .fresh, value := 2 }
    { full .active with
      lines := { (full .active).lines with wake := true }
      power := { (full .active).power with keyOpen := true, pulseWake := some .a } }

/-- R14, R21, R153, R157: the warm restart of that part, by BUS. -/
theorem test_warm_restart :
    after (.reset []) keyed (fun t =>
      decide (t.power.state = .active ∧ t.power.cause = .bus ∧ t.power.keyOpen = false ∧ t.power.quietCount = 0 ∧
        t.power.pulseWake = none ∧ t.cap.sources[26].state = .fresh ∧ t.cap.sources[26].value = 0)) = true := by
  decide +kernel
theorem test_warm_restart_opens :
    after (.reset []) { full .active with lines := { (full .active).lines with ign := true } } (fun t =>
      decide (t.power.cause = .ign ∧ t.power.keyOpen = true ∧ t.power.keyCycles = 1 ∧
        t.cap.board[sKeyState] = { value := 2, state := .fresh, active := some 26 })) = true := by decide +kernel
theorem witness_ResetRestarts_key : fullCfg.ignPrio.isSome = true ∧ keyed.lines.ign = false ∧ keyed.lines.wake = true ∧
    keyed.power.keyOpen = true ∧ (full .active).power.keyOpen = false ∧ (full .active).lines.wake = false := by
  decide +kernel
/-- R159: the ACTIVE entry at the end of LOADING, by the pulse wake mark. -/
theorem test_loading_ends_active :
    after .loadingEnd { full .loading with power := { (full .loading).power with pulseWake := some .b } } (fun t =>
      decide (t.power.state = .active ∧ t.power.cause = .pulseB ∧ t.power.quietCount = 0 ∧ t.power.pulseWake = none ∧
        t.pulseA.running = true ∧ t.pulseB.running = false ∧ t.bus.gate = false ∧
        t.cap.board[sKeyState] = { value := 0, state := .fresh, active := some 26 })) = true := by decide +kernel
/-- R93, R126: the entry of a layout close, from a checkpoint with an attempt open in slot 0. -/
theorem test_layout_entry :
    (let c := settleAttempt (snapshot confirming false 9)
     (layoutEntry c 0).map (fun e => (e.chans.map (·.number), e.chans.map (·.hours))) = some ([some 2], [1000]) ∧
     (layoutEntry c 0).map (·.tallies) =
      some (.engine { attempts := 212, starts := 200, failed := 8, unresolved := 4, cold := 41, stalls := 2, openMark := false }) ∧
     (layoutEntry c 4).map (·.chans) = some [noChan]) := by decide +kernel
theorem witness_LoadingClosesAndEnds :
    (let s := { full .loading with comps := { (full .loading).comps with layoutLeft := [gearEntry] } }
     s.power.state = .loading ∧ s.comps.layoutLeft = gearEntry :: [] ∧ s.comps.queue.length < 4 ∧ s.comps.nextSeq < max32) ∧
    (full .loading).comps.layoutLeft = [] ∧ (full .loading).comps.queue = [] ∧ (full .loading).store.port = none := by
  decide +kernel

theorem witness_IgnLineTaken : (full .parked).lines.ign ≠ true ∧ (full .closing).lines.ign ≠ true ∧
    (full .active).cfg.ignPrio.isSome = true := by decide +kernel
theorem witness_WakeAndWarningTaken : (full .parked).lines.wake ≠ true ∧ (full .closing).lines.warning ≠ true := by
  decide +kernel
theorem witness_SettleEntersActive : (full .waking).power.state = .waking ∧ (full .waking).power.settle = true := by
  decide +kernel
theorem witness_QuietTimerCloses : (full .active).power.quietRunning = true ∧
    (full .active).cfg.quiet ≤ (full .active).power.quietCount ∧ (full .active).cfg.ignUsed = true ∧
    (full .active).lines.ign = false := by decide +kernel
theorem witness_FrameArrivalReceived : (full .closing).bus.link ≠ .off ∧ (full .closing).faults.linkOff = none ∧
    (full .active).cap.rx.length < 16 ∧ (full .active).bus.gate = false ∧ (full .active).bus.queue.length < 7 ∧
    (queued 2 (full .active)).bus.gate = true := by decide +kernel

/-- A frame of entry 0 and a request frame of the station. -/
def peerFrame : Frame := { ext := true, ident := 0x0CF00400, data := [0, 0, 0, 0x90, 0x33, 0, 0, 0] }
def requestFrame : Frame := { ext := true, ident := 0x18F00003, data := [6] }

theorem witness_PeerFrameTaken :
    ¬ (peerFrame.ext = true ∧ peerFrame.ident = fullCfg.base + fullCfg.station) ∧
    entryMatching fullCfg peerFrame 0 = some (entry sPropSpeed) ∧ entryMatching fullCfg peerFrame 23 = none ∧
    decodeField (entry sPropSpeed) peerFrame.data = .good 1650 := by decide +kernel
/-- R10, Table 10-1: an error field raises SIG_FAULTED with the number of the target signal. -/
theorem test_faulted_capture :
    after .frameTaken { full .active with cap := { (full .active).cap with rx :=
        [{ ext := true, ident := 0x0CF00400, data := [0, 0, 0, 0xFE, 0xFF] }] } } (fun t =>
      decide (t.faults.record.capture = some { kind := .sigFaulted, keyCycle := 0, index := some 10, elapsed := 0 })) =
      true := by decide +kernel
/-- The frame of 7.8 that hands slot 4 its identity field. -/
def identityFrame : Frame := { ext := true, ident := 5, data := [1, 0xC0, 0x51, 0] }

theorem witness_PeerFrameTaken_identity : fullCfg.classes[4] = some .gearbox ∧
    IdentityIn fullCfg identityFrame 4 0x0051C001 ∧ (∀ v, ¬ IdentityIn fullCfg peerFrame 4 v) ∧ fullCfg.classes[5] = none :=
  ⟨rfl, ⟨_, rfl, rfl, rfl, by decide, by decide⟩, fun _ ⟨_, h, _, k, _⟩ => by
    obtain rfl := Option.some.inj h; exact absurd k (by decide), rfl⟩
theorem test_identity_frame_closes :
    after .frameTaken { gearbox with cap := { gearbox.cap with rx := [identityFrame] } } (fun t =>
      decide (t.comps.slots[(4 : Fin 12)].identity = some 0x0051C001 ∧ t.comps.slots[(4 : Fin 12)].generation = 7 ∧
        t.comps.queue.map (·.identity) = [some 0x0051A2C0])) = true := by decide +kernel
theorem witness_RequestFrameServed : linkRunning (full .closing) = true ∧ requestFrame.ext = true ∧
    requestFrame.ident = fullCfg.base + fullCfg.station := by decide +kernel
theorem witness_RawFieldJoined : (entry 0).start + fieldBytes (entry 0) ≤ [0, 0, 0, 0x90, (0x33 : Byte)].length := by
  decide +kernel
theorem witness_FieldClassified : rawField (entry 0) [0, 0, 0, 0xFD, 0xFF] < 2 ^ (entry 0).len - 2 ∧
    rawField (entry 0) [0, 0, 0, 0xFE, 0xFF] = 2 ^ (entry 0).len - 2 ∧
    rawField (entry 0) [0, 0, 0, 0xFF, 0xFF] = 2 ^ (entry 0).len - 1 := by decide +kernel
theorem witness_SourceTimersExpire :
    (let s := source 0 { Source.initial with state := .fresh, timeout := some 5 } (full .active)
     linkRunning s = true ∧ (ageItems s.cfg 0).map (expiring · s.cap.sources[0]) = some true) ∧
    (let s := source 0 { Source.initial with state := .held, hold := some 10 } (full .active)
     (ageItems s.cfg 0).map (expiring · s.cap.sources[0]) = some true) ∧
    (ageItems fullCfg 0).map (expiring · { Source.initial with timeout := some 4 }) = some false ∧
    ageItems fullCfg 26 = none := by decide +kernel
theorem witness_TimersCountAndExpire :
    (let s := { full .active with store := { StoreCtl.initial with interval := 3000 } }
     s.power.state ≠ .unsupplied ∧ s.cfg.interval ≤ s.store.interval) ∧
    (let s := { full .active with start := { StartUnit.initial with stallRunning := true, stallCount := 600 } }
     s.cfg.start = some startCfg ∧ s.start.stallRunning = true ∧ startCfg.stall ≤ s.start.stallCount) := by decide +kernel

/-- The board of C2 with an open and with a closed gate. -/
def opened (x : ChanState) : State := c2 x (see sEngineLoad .fresh 60 (full .active))
def closed (x : ChanState) : State := c2 x (see sEngineLoad .fresh 10 (full .active))

theorem witness_ChannelMoves : (opened .idle).cfg.channels[2] = some chanC2 ∧ (opened .idle).chans[2].state = .idle ∧
    gateOpen (opened .idle).cap.board chanC2 false = true ∧ gateOpen (closed .running).cap.board chanC2 false = false ∧
    (opened .qualifying).chans[2].qualify = chanC2.qualify ∧ (closed .lingering).chans[2].linger + 1 = chanC2.separation := by
  decide +kernel
theorem witness_ChannelMoves_spectra : fullCfg.spectra[0].map (·.owner) = some 2 ∧ fullCfg.spectra[1] = none ∧
    after (.channelSample 2) (see sEngineSpeed .fresh 1650 (see sEngineLoad .fresh 82 (c2 .running (full .active))))
      (fun t => decide (t.spectra[0].bins[19] = 1)) = true := by decide +kernel
/-- C2 one tick before its hours reach their maximum, above its threshold and not yet due. -/
def nearFull : State :=
  see sEngineLoad .fresh 60
    ((full .active).setChan 2 { recC2 with state := .running, hourPre := 359, hours := max32 - 1, revs := max32 - 1 })

theorem witness_ChannelReported : nearFull.chans[2].saturated = false ∧ nearFull.chans[2].satReported = false ∧
    nearFull.chans[2].due = false ∧ nearFull.faults.record.capture = none ∧ linkRunning nearFull = true ∧
    nearFull.bus.queue.length < 7 ∧
    (let t := (opened .running).setChan 2 { recC2 with state := .running, hourPre := 358 }
     t.chans[2].due = false ∧ t.chans[2].hours < chanC2.threshold ∧ max32 > t.chans[2].hours) := by decide +kernel
/-- R66, R68, R185: COUNTER_SAT with the channel's number, and the DUE notice behind its FAULT notice. -/
theorem test_channel_reports :
    after (.channelSample 2) nearFull (fun t =>
      decide (t.chans[2].saturated = true ∧ t.chans[2].satReported = true ∧ t.faults.dueSet[2] = true ∧
        t.faults.record.capture = some { kind := .counterSat, keyCycle := 0, index := some 2, elapsed := 0 } ∧
        t.bus.queue.map (·.data) = [[3, 12, 2, 1], [1, 2, 0, 0, 0xFF, 0xFF, 0xFF]])) = true := by decide +kernel
theorem test_revolution_saturates :
    after (.countedEdge .a true) nearFull (fun t =>
      decide (t.chans[2].saturated = true ∧ countOf t .counterSat = 1)) = true := by decide +kernel
theorem witness_ChannelCredits : (opened .qualifying).chans[2].hourPre < 360 ∧ (opened .qualifying).chans[2].wearAcc < 92160 ∧
    (opened .qualifying).chans[2].hours < max32 ∧ (opened .qualifying).chans[2].wear + 37 < max32 ∧
    (opened .qualifying).chans[2].pendTicks ≤ 50 ∧ (opened .running).chans[2].state = .running ∧
    (opened .qualifying).chans[2].state = .qualifying ∧ (opened .idle).chans[2].state = .idle := by decide +kernel
/-- C2 after one pended sample, and the same under the OPEN policy on a signal that is not usable. -/
def pended : State :=
  (opened .idle).setChan 2 { recC2 with state := .qualifying, lastOpen := true, qualify := 1, pendTicks := 1, pendWeight := 256 }
def estimated : State :=
  see sEngineLoad .stale 60
    { pended with cfg := { fullCfg with channels := fullCfg.channels.set 2 (some { chanC2 with policy := .opened }) } }

/-- R48, R58, R59: the weight and the estimated mark that a pended sample adds. -/
theorem witness_ChannelMoves_pended :
    after (.channelSample 2) (opened .idle) (fun t => decide (t.chans[2].pendWeight = 256 ∧ t.chans[2].pendEst = 0)) = true ∧
    after (.channelSample 2) pended (fun t => decide (t.chans[2].pendWeight = 512 ∧ t.chans[2].pendTicks = 2)) = true ∧
    after (.channelSample 2) estimated (fun t => decide (t.chans[2].pendWeight = 512 ∧ t.chans[2].pendEst = 1)) = true := by
  decide +kernel
/-- R49, R62, R65: four ticks and 1,024 raw units into counters at their maximum; two ticks of the four are left over. -/
theorem witness_ChannelCredits_saturated :
    after (.channelSample 2)
      (see sEngineLoad .fresh 60 ((full .active).setChan 2 { recC2 with
        state := .qualifying, lastOpen := true, qualify := 3, pendTicks := 3, pendWeight := 768, hourPre := 358,
        hours := max32, wear := max32 - 1 })) (fun t =>
      decide (t.chans[2].hours = max32 ∧ t.chans[2].hourPre = 0 ∧ t.chans[2].wear = max32 ∧ t.chans[2].wearAcc = 0)) =
      true := by decide +kernel
/-- R56, R57: a term by its range, by the OPEN policy, and under the CLOSED one on a signal that is not usable. -/
theorem witness_WeightsFormedAndAccumulated_gate :
    gateOpen pended.cap.board chanC2 true = true ∧ gateEstimated pended.cap.board chanC2 true = false ∧
    gateOpen estimated.cap.board { chanC2 with policy := .opened } true = true ∧
    gateEstimated estimated.cap.board { chanC2 with policy := .opened } true = true ∧
    gateOpen estimated.cap.board chanC2 true = false ∧
    gateOpen estimated.cap.board { chanC2 with policy := .hold } false = false := by decide +kernel
theorem witness_WeightsFormedAndAccumulated : (0 : Nat) + 65535 < 92160 ∧ 92160 ≤ 91623 + 537 ∧ max32 - 1 + 1 = max32 := by decide +kernel
theorem witness_WeightsFormedAndAccumulated_tables :
    (∃ w, fullCfg.maps[1] = .valid sEngineSpeed 2 sEngineLoad 3 320 w) ∧ fullCfg.bands[2] = .valid [800, 1400, 1900, 2300] ∧
    fullCfg.bands[3] = .valid [25, 50, 75, 100] ∧ (∃ k, fullCfg.factors[0] = .valid sCoolantTemp 4 k) ∧
    fullCfg.bands[4] = .valid [70, 95, 105] ∧
    ({ fullCfg with maps := Vector.replicate 6 (.degraded 9) } : RunConfig).maps[0] = .degraded 9 ∧
    ({ fullCfg with factors := Vector.replicate 3 .degraded } : RunConfig).factors[2] = .degraded ∧
    65535 < 65535 * 307 / 256 ∧ recC2.clip ≤ 65535 := ⟨⟨_, rfl⟩, rfl, rfl, ⟨_, rfl⟩, rfl, rfl, rfl, by decide, by decide⟩
theorem witness_EstimatedHoursAligned : (5 : Nat) = min max32 (5 + (1000 - 1000)) ∧ (5 : Nat) < 6 := by decide +kernel
theorem witness_SpectrumSampleClassified :
    (let b := (see sEngineLoad .fresh 82 (see sEngineSpeed .fresh 1650 (full .active))).cap.board
     usable b[sEngineSpeed].state = true ∧ usable b[sEngineLoad].state = true ∧
     8 * bandOf (tableLimits fullCfg 2) b[sEngineSpeed].value + bandOf (tableLimits fullCfg 3) b[sEngineLoad].value = 19 ∧
     unit0.divider + 1 = 2 ^ unit0.scale ∧ unit0.bins[19] = max24 ∧ unit0.scale < 15 ∧
     (tableLimits fullCfg 2).length ≤ 7 ∧ (tableLimits fullCfg 3).length ≤ 7) ∧
    usable SigState.stale = false := by decide +kernel
/-- A credited sample of C2 that is lost at scale 15: R102, R169, COUNTER_SAT with item 76 of unit 0. -/
theorem witness_UnitReports :
    after (.channelSample 2)
      { see sEngineLoad .fresh 82 (see sEngineSpeed .fresh 1650 (c2 .running (full .active))) with
        spectra := (full .active).spectra.set 0
          { Spectrum.zero with bins := (Vector.replicate 64 0).set 19 max24, scale := 15, divider := 32767 } } (fun t =>
      decide (t.spectra[0].satReported = true ∧
        t.faults.record.capture = some { kind := .counterSat, keyCycle := 0, index := some 76, elapsed := 0 })) = true := by
  decide +kernel
theorem witness_TickStepTaken :
    (let s := see sEngineSpeed .fresh 90 (unit .running (full .active))
     s.power.state = .active ∧ s.cfg.start = some startCfg ∧ s.start.state = .running ∧
     usable s.cap.board[sEngineSpeed].state = true ∧ s.cap.board[sEngineSpeed].value < (startCfg.stop : Int)) ∧
    confirming.start.state = .confirming ∧ startCfg.confirm ≤ confirming.start.confirm + 1 := by decide +kernel
theorem witness_BoardChangesFollowed :
    crankIndication (see sKeyState .fresh 3 (full .active)).cap.board = true ∧ (full .active).start.lastCrank = false ∧
    (full .active).start.state = .off ∧ (unit .cranking (full .active)).start.lastCrank = true ∧
    crankIndication (unit .cranking (full .active)).cap.board = false := by decide +kernel
theorem witness_BoardChangesFollowed_speed :
    (let s := see sEngineSpeed .fresh 800 (unit .unverified (full .active))
     usable s.cap.board[sEngineSpeed].state = true ∧ (startCfg.run : Int) ≤ s.cap.board[sEngineSpeed].value ∧
     crankIndication s.cap.board = false) ∧
    (let s := see sEngineSpeed .fresh 300 (unit .confirming (full .active))
     s.cap.board[sEngineSpeed].value < (startCfg.run : Int) ∧ usable s.cap.board[sEngineSpeed].state = true) ∧
    usable (unit .confirming (full .active)).cap.board[sEngineSpeed].state = false ∧
    (let s := see sStarterEngaged .fresh 1 { full .active with start := { StartUnit.initial with state := .running } }
     crankIndication s.cap.board = true ∧ s.start.lastCrank = false ∧ s.start.state = .running) ∧
    (1 : Fin 12) ≠ startCfg.engine := by decide +kernel
theorem witness_CountedEdgeTaken : pulseInUse (pulseCfg fullCfg .a) = true ∧ edgeSelected (pulseCfg fullCfg .a).edge true = true ∧
    ((full .active).pulse .a).prescaler < 40 ∧ ((full .active).pulse .a).lifetime < max32 ∧
    ((full .active).pulse .a).prescaler + 1 = 40 ∧ edgeSelected (pulseCfg fullCfg .a).edge false = false := by decide +kernel
/-- C2 in a state, with unit A one edge before a wrap at the maximum of its lifetime count. -/
def atMaximum (x : ChanState) : State :=
  { c2 x (full .active) with
    cfg := { fullCfg with channels := (Vector.replicate 24 none).set 2 (some { chanC2 with revSource := some .a }) }
    pulseA := { (full .active).pulseA with lifetime := max32 } }

/-- R25, R26, R64: the wrap gives the event there too: a pending revolution in QUALIFYING, none in LINGERING and IDLE. -/
theorem witness_CountedEdgeTaken_maximum :
    after (.countedEdge .a true) (atMaximum .qualifying) (fun t =>
      decide (t.pulseA.prescaler = 0 ∧ t.pulseA.lifetime = max32 ∧ t.chans[2].pendRevs = 1 ∧ t.chans[2].revs = 0)) = true ∧
    after (.countedEdge .a true) (atMaximum .lingering) (fun t =>
      decide (t.chans[2] = (atMaximum .lingering).chans[2])) = true ∧
    after (.countedEdge .a true) (atMaximum .idle) (fun t => decide (t.chans[2] = (atMaximum .idle).chans[2])) = true ∧
    after (.countedEdge .a true) (atMaximum .running) (fun t => decide (t.chans[2].revs = 1)) = true := by decide +kernel
theorem witness_WindowEndRefreshes :
    (let s := source 0 { Source.initial with state := .fresh, value := 1290 }
        ((full .active).setPulse .a { (full .active).pulseA with windowTicks := 10, windowEdges := 800, disagree := 4 })
     s.power.state = .active ∧ (s.pulse .a).running = true ∧ 10 ≤ (s.pulse .a).windowTicks ∧
     busSpeed s.cfg s.cap.sources (pulseCfg s.cfg .a).target = some 1290 ∧ countOf s .sigDisagree ≤ 255 ∧
     5 * max (1200 : Int) 1290 < 100 * |1200 - 1290|) := by decide +kernel

theorem witness_LinkStateTaken : linkRunning (queued 3 (full .active)) = true ∧ (queued 3 (full .active)).bus.link ≠ .off ∧
    countOf (queued 3 (full .active)) .txDrop ≤ 255 ∧ (full .closing).bus.link ≠ .passive ∧
    ({ (full .active).bus with link := .off } : Bus).link ≠ .active := by decide +kernel
/-- R170, Table 10-1: LINK_OFF empties a queue of notices: TX_DROP takes the capture with frame kind 2. -/
theorem test_drop_capture :
    after (.linkStateChange .off) (queued 3 (full .active)) (fun t =>
      decide (t.faults.record.capture = some { kind := .txDrop, keyCycle := 0, index := some 2, elapsed := 0 })) = true := by
  decide +kernel
theorem witness_FramesLeaveAndFeed : burst119.bus.offer ≠ .none ∧ burst119.bus.sent + 1 < burst119.bus.burst.length ∧
    (queued 1 (full .active)).bus.queue = tx .notice .notice 7 :: [] ∧
    (let s := { c2 .lingering (full .active) with bus := { Bus.initial with keyList := [2] } }
     s.bus.keyList = 2 :: [] ∧ s.cfg.channels[2] = some chanC2 ∧ s.chans[2].due = true ∧ s.bus.queue.length ≤ 5) := by
  decide +kernel
theorem witness_FramesJoinAndFaultsRaise :
    (let s := queued 8 (full .active)
     s.bus.queue = [tx .notice .notice 7] ++ List.replicate 7 (tx .notice .notice 7) ∧ s.bus.offer ≠ .none ∧
     s.bus.queue.length = 8) ∧ (queued 7 (full .active)).bus.queue.length < 8 := by decide +kernel
theorem witness_FramesJoinAndFaultsRaise_raise :
    (full .active).faults.record.capture = none ∧ statusOf (full .active).faults .sigStale = false ∧
    fullCfg.faultMasks.getLsbD (kindIndex .sigStale).val = false ∧ linkRunning (full .active) = true ∧
    (full .active).bus.queue.length < 8 ∧ statusOf (raise .sigStale none (full .active)).faults .sigStale = true ∧
    linkRunning (full .parked) = false ∧ FaultKind.sigStale ≠ .txDrop := by decide +kernel
theorem witness_SummaryAndStatusSent :
    (let s := { full .active with bus := { Bus.initial with gate := true, summaryCount := 10, statusCount := 100 } }
     s.bus.gate = true ∧ linkRunning s = true ∧ s.cfg.summary ≤ s.bus.summaryCount ∧ 100 ≤ s.bus.statusCount ∧
     s.cfg.channels[2].isSome = true ∧ (2 : Fin 24) = Fin.ofNat 24 (s.bus.pointer.val + 1 + 2) ∧
     ∀ e, e < 2 → s.cfg.channels[(Fin.ofNat 24 (s.bus.pointer.val + 1 + e) : Fin 24)] = none) := by decide +kernel

/-- A part whose port would begin a checkpoint, with a preset staged at C2. -/
def ready : State :=
  { (full .active).setChan 2 { recC2 with staged := some { quantity := .wear, value := 0, base := 700 } } with
    store := { StoreCtl.initial with urgent := true } }

theorem witness_PortOrder : busy.store.port ≠ none ∧ ready.store.port = none ∧ ready.store.urgent = true ∧
    (full .active).store.urgent = false ∧ (full .active).comps.queue = [] := by decide +kernel
theorem witness_CheckpointBegins : portChoice ready = .checkpoint ∧ ready.cfg.fallback = false ∧
    ready.store.disabled = false ∧ ready.store.lastIssued < max32 ∧ ready.store.bad[10] = false ∧
    ready.store.newest ≠ some 10 ∧
    (let s := { State.reset with store := { StoreCtl.initial with urgent := true } }
     portChoice s = .checkpoint ∧ s.cfg.fallback = true) := by decide +kernel
theorem witness_CheckpointBegins_disables :
    (let s := { ready with store := { ready.store with bad := Vector.replicate 11 true, lastFailed := some 3 } }
     portChoice s = .checkpoint ∧ s.cfg.fallback = false ∧ s.store.disabled = false ∧ (∀ j : Fin 11, s.store.bad[j] = true) ∧
       35 = 32 + (3 : Fin 11).val) ∧
    (let s := { ready with store := { ready.store with newest := some 4, lastIssued := max32 } }
     portChoice s = .checkpoint ∧ s.store.bad[0] = false ∧ s.store.newest ≠ some 0 ∧ max32 ≤ s.store.lastIssued) ∧
    portChoice (full .active) ≠ .checkpoint := by decide +kernel
theorem witness_PresetApplied : portChoice ready = .checkpoint ∧ ready.cfg.channels[2] = some chanC2 ∧
    ready.chans[2].staged = some { quantity := .wear, value := 0, base := 700 } ∧
    100 = min max32 (0 + (quantityOf .wear ready.chans[2] - 700)) := by decide +kernel
/-- An orderly checkpoint in flight to J10. -/
def closingSnap : Checkpoint := snapshot (full .closing) true 9
def checkpointing : State := port (some (.checkpoint 10 closingSnap)) (full .closing)

theorem witness_CheckpointCompletes : StoreSound checkpointing ∧
    checkpointing.store.port = some (.checkpoint 10 closingSnap) ∧ closingSnap.orderly = true ∧ 1 ≤ closingSnap.seq ∧
    closingSnap.seq ≤ max32 ∧ checkpointing.lines.wake = false := by
  refine ⟨⟨rfl, ?_, ?_, by decide +kernel⟩, rfl, rfl, by decide, by decide, rfl⟩
  · intro op h; obtain rfl := Option.some.inj h; trivial
  · intro req begun h; cases h
theorem witness_TalliesFit (i : Fin 12) : TalliesFit closingSnap.components[i].tallies := by
  have other : ∀ i : Fin 12, i ≠ 0 → i ≠ 1 → closingSnap.components[i].tallies = .none := by decide +kernel
  by_cases e : i = 0
  · subst e; exact (by decide : 210 ≤ max32 ∧ 200 ≤ max32 ∧ 7 ≤ max32 ∧ 3 ≤ max32 ∧ 41 ≤ max32 ∧ 2 ≤ max32)
  · by_cases f : i = 1
    · subst f; exact (by decide : 260 ≤ max32 ∧ 5400 ≤ max32 ∧ 0 ≤ max32 ∧ 0 ≤ max32)
    · rw [other i e f]; trivial
theorem witness_CheckpointFits : CheckpointFits closingSnap :=
  { head := by decide +kernel
    components := fun i =>
      have blank : ∀ i : Fin 12, closingSnap.components[i].identity = none := by decide +kernel
      have small : ∀ i : Fin 12, closingSnap.components[i].generation ≤ max16 ∧
          closingSnap.components[i].install ≤ max32 ∧ closingSnap.components[i].bound.length ≤ 4 := by decide +kernel
      ⟨fun v h => (by rw [blank] at h; cases h), (small i).1, (small i).2.1, (small i).2.2, witness_TalliesFit i⟩
    channels := by decide +kernel
    spectra := by decide +kernel
    faults := ⟨by decide +kernel, fun x h => nomatch (h : none = some x)⟩
    queue := ⟨by decide, fun e h => nomatch (h : e ∈ [])⟩ }
theorem changed_byte (m : List Host.Cell) (hw : memWf m = true) (c : Checkpoint) (b : Byte) :
    byteAt (slotBytes (writtenSlot m 10 c [(0, b)]) 10) 0 = b := by
  have k : slotAddr 10 + (encodeCheckpoint c).length ≤ storeSize := by rw [encodeCheckpoint_length]; decide
  rw [byteAt_slotBytes (by decide)]
  exact memRead_memWrite_same (memWriteBytes_wf hw k)
theorem witness_CheckpointCompletes_fails :
    slotBytes (writtenSlot (full .closing).nvm 10 closingSnap [(0, 5)]) 10 ≠ encodeCheckpoint closingSnap := fun h =>
  absurd ((changed_byte _ rfl closingSnap 5).symm.trans (congrArg (byteAt · 0) h)) (by decide +kernel)

theorem witness_OrderlyInFlight : OrderlyInFlight checkpointing ∧ ¬ OrderlyInFlight (full .closing) :=
  ⟨⟨10, closingSnap, rfl, rfl⟩, by rintro ⟨_, _, h, _⟩; cases h⟩
/-- R135, R163, R184: CLOSING abandoned under an orderly checkpoint by an arrival, and its STATUS frame. -/
theorem test_abandonment_follows_up :
    after (.frameArrival { ext := true, ident := 1, data := [] } false) checkpointing (fun t =>
      decide (t.power.state = .active ∧ t.store.followUp = true ∧ t.store.orderly = false ∧ t.store.normal = false ∧
        t.bus.queue.map (·.kind) = [.status])) = true := by decide +kernel

/-- An orderly request in CLOSING under the fallback configuration, with the WAKE line active. -/
def skipping : State :=
  { State.reset with
    power := { Power.initial with state := .closing }, lines := { State.reset.lines with wake := true }
    store := { StoreCtl.initial with urgent := true, orderly := true } }

/-- R157: a PARKED entry with the WAKE line active is a wake with cause BUS. -/
theorem test_park_wakes :
    after .checkpointBegin skipping (fun t =>
      decide (t.power.state = .waking ∧ t.power.cause = .bus ∧ t.lines.stby = false)) = true := by decide +kernel
theorem witness_ParksOrWakes : portChoice skipping = .checkpoint ∧ skipping.power.state = .closing ∧
    skipping.store.orderly = true ∧ skipping.lines.wake = true := by decide +kernel

/-- A part whose history write queue has an entry at its head. -/
def writing : State := { full .active with comps := { (full .active).comps with queue := [gearEntry], index := [(23, 1175)] } }

theorem witness_HistoryWrites : portChoice writing = .historyWrite gearEntry ∧ writing.comps.index = [(23, 1175)] ∧
    (encodeEntry [0, 0, 0, 0] gearEntry).length = 256 ∧
    classifyHistory 23 (encodeEntry [0, 0, 0, 0] gearEntry) = .valid 1207 ∧
    historyAt (writtenBytes [] 23 (encodeEntry [0, 0, 0, 0] gearEntry) [(0, 0)]) 23 ≠ .valid 1207 ∧
    (∀ i : Fin 12, closeDeferred writing.comps.slots[i] = false) := by decide +kernel
/-- R122, Table 10-1: a failed history write takes the capture with its position. -/
theorem test_write_capture :
    after (.historyWriteCompletion [(0, 0)] false) busy (fun t =>
      decide (t.faults.record.capture = some { kind := .storeWrite, keyCycle := 0, index := some 23, elapsed := 0 })) =
      true := by decide +kernel
/-- The record of an older entry of position 23, and a failed write whose operand gives all its bytes. -/
def evicted : List Byte := encodeEntry [0, 0, 0, 0] { gearEntry with seq := 1175 }

theorem witness_HistoryWrites_evicted : historyAt (memWriteBytes [] (historyAddr 23) evicted) 23 = .valid 1175 ∧
    historyAt (writtenBytes [] 23 (encodeEntry [0, 0, 0, 0] gearEntry) ((List.range 256).zip evicted)) 23 = .valid 1175 := by
  decide +kernel
/-- R121: it is gone all the same. -/
theorem test_evicted_gone :
    after (.historyWriteCompletion ((List.range 256).zip evicted) false) busy (fun t =>
      decide (historyAt t.nvm 23 = .torn ∧ countOf t .storeWrite = 1)) = true := by decide +kernel
theorem witness_HistoryWrites_cut : busy.power.state ≠ .unsupplied ∧ busy.power.ramValid = true ∧
    busy.store.port = some (.historyWrite gearEntry (encodeEntry [0, 0, 0, 0] gearEntry)) := ⟨by decide, rfl, rfl⟩
theorem witness_StoredRecordsReadBack : gearEntry.seq ≤ max32 ∧ gearEntry.chans.length = 1 ∧ [(0 : Byte), 0, 0, 0].length = 4 := by
  decide +kernel
theorem witness_HistoryReadAndWipeServed :
    (let s := slot (.waitingStore (.readHistory 0) false) (full .active)
     portChoice s = .slotOp (.readHistory 0) ∧ s.comps.index.length ≤ 0 ∧
     portChoice { s with comps := { s.comps with index := [(23, 1175)] } } = .slotOp (.readHistory 0)) ∧
    historyAt (writtenBytes [] 23 (encodeEntry [0, 0, 0, 0] gearEntry) []) 23 = .valid 1207 ∧
    portChoice { full .active with store := { StoreCtl.initial with wipePending := true } } = .wipe := by decide +kernel
theorem witness_ConfigWordsServed :
    portChoice (slot (.waitingStore (.readConfig 511) false) (full .active)) = .slotOp (.readConfig 511) ∧
    portChoice (slot (.waitingStore (.writeConfig 0 [1, 0, 7, 0]) false) (full .active)) = .slotOp (.writeConfig 0 [1, 0, 7, 0]) ∧
    configWord (writtenWord [] 511 [1, 2, 3, 4] [(3, 0)]) 511 ≠ [1, 2, 3, 4] := by decide +kernel
/-- R147 with assumption log 15: with 6 frames queued the answer of a failed CONFIG WRITE is fed before the raise. -/
theorem test_failed_word_answered_first :
    after (.configWriteCompletion [(3, 0)])
      (slot (.waitingStore (.writeConfig 511 [1, 2, 3, 4]) true)
        (queued 6 (port (some (.configWrite 511 [1, 2, 3, 4])) (full .active)))) (fun t =>
      decide (t.bus.fed = 1 ∧ t.bus.queue.length = 8 ∧ t.bus.burst.map (·.data) = [[14, 0, 0xFF, 1, 1, 2, 3, 0]] ∧
        countOf t .storeWrite = 1 ∧ countOf t .txDrop = 0)) = true := by decide +kernel
theorem witness_IdentityConfirmed : gearbox.comps.slots[4] = slot4 ∧ slot4.identity ≠ some 0x0051C001 ∧
    slot4.candidate = some 0x0051C001 ∧ gearbox.comps.queue.length < 4 ∧ gearbox.comps.nextSeq < max32 := by decide +kernel

/-- A part at standstill with an IDLE slot. -/
def still : State := see sRoadSpeed .fresh 0 gearbox

theorem witness_SlotTakes : SlotTakes still ∧ SlotTakes (full .closing) := by unfold SlotTakes; decide +kernel
theorem witness_ClosesMade : still.cfg.fallback = false ∧ standstill still = true ∧ still.cfg.classes[4] = some .gearbox ∧
    leNat (([4, 0xFE, 0xFF, 0xFF, 0xFF].drop 1).take 4) = 0xFFFFFFFE ∧ still.comps.queue.length < 4 ∧
    (let s := (still.setSlot 4 { slot4 with confirm := 3 })
     closeDeferred s.comps.slots[4] = true ∧ (∀ j : Fin 12, j < 4 → closeDeferred s.comps.slots[j] = false)) := by
  decide +kernel
/-- Slot 0 with a preset staged at its channel, and slots 0 and 4 with closes deferred. -/
def staging : State := still.setChan 2 { recC2 with staged := some { quantity := .wear, value := 0, base := 700 } }
def deferring : State :=
  (still.setSlot 4 { slot4 with confirm := 3 }).setSlot 0 { still.comps.slots[0] with state := .candidate, candidate := some 9, confirm := 3 }

theorem witness_CloseFaults : stagedChannels 0 staging = [2] ∧ stagedChannels 4 staging = [] ∧
    countOf staging .presetAbandoned ≤ 255 ∧ staging.faults.record.capture = none ∧ staging.bus.queue.length < 8 := by
  decide +kernel
/-- R72: the close of slot 0 abandons the preset of C2. -/
theorem test_preset_abandoned :
    after (.closeComponent [0]) staging (fun t =>
      decide (t.chans[2].staged = none ∧ statusOf t.faults .presetAbandoned = true ∧
        t.faults.record.capture = some { kind := .presetAbandoned, keyCycle := 3184, index := some 2, elapsed := 0 })) =
      true := by decide +kernel
theorem witness_ClosesMade_retry : deferring.power.state ≠ .unsupplied ∧ closeDeferred deferring.comps.slots[0] = true ∧
    closeDeferred deferring.comps.slots[4] = true ∧ deferring.comps.queue.length < 3 := by decide +kernel
/-- R114: both closes made in slot order. -/
theorem test_retry_makes_both :
    after .deferredCloseRetry deferring (fun t => decide (t.comps.queue.map (·.slot) = [0, 4])) = true := by decide +kernel
theorem witness_PagesCarryBlock : (configBlock 511 [1, 2, 3, 4]).length ≤ 1 * (8 - 1) := by decide +kernel
theorem witness_PagesCarryBlock_fields : (srcItems fullCfg 0).isSome = true ∧ (srcItems fullCfg 5).isSome = false ∧
    (encodeEntry [0, 0, 0, 0] gearEntry).length = 256 ∧ (byteAt (encodeEntry [0, 0, 0, 0] gearEntry) 7).toNat = 1 ∧
    ready.chans[2].staged.isSome = true ∧ recC2.staged = none ∧ slot4.candidate = some 0x0051C001 ∧
    fullCfg.start = some startCfg ∧ startCfg.engine = 0 ∧ unit0.bins[56 + 7]? = some 0 := by decide +kernel
theorem witness_ReadAndStoreRequestsTaken : (byteAt [1, 26] 0 : Byte) = 1 ∧ (byteAt [1, 26] 1).toNat = 26 ∧
    still.cfg.channels[2].isSome = true ∧ (full .active).cfg.spectra[0].isSome = true ∧
    (byteAt [0xFF, 1] 0).toNat + 256 * (byteAt [0xFF, 1] 1).toNat = 511 := by decide +kernel
theorem witness_CommandRequestsServed : (byteAt [0xFF, 0x3F] 0).toNat + 256 * (byteAt [0xFF, 0x3F] 1).toNat < 16384 ∧
    16384 ≤ (byteAt [0, 0x40] 0).toNat + 256 * (byteAt [0, 0x40] 1).toNat ∧
    (byteAt [2, 4, 0, 0, 0, 0] 1 : Byte) = quantityCode .revolutions ∧ standstill still = true := by decide +kernel
/-- R175: the capture of an acknowledged kind whose cause is present is latched again, with the present index. -/
theorem test_ack_latches_again :
    after (.ackFaults [0, 2])
      { full .active with faults := { FaultUnit.initial with
          storeWrite := some (some 35), elapsed := 6
          record := { FaultUnit.initial.record with
            capture := some { kind := .storeWrite, keyCycle := 0, index := some 32, elapsed := 5 } } } } (fun t =>
      decide (t.faults.record.capture = some { kind := .storeWrite, keyCycle := 0, index := some 35, elapsed := 6 })) =
      true := by decide +kernel
theorem witness_RequestsRefused : ¬ (1 ≤ codeOf [15] ∧ codeOf [15] ≤ 14) ∧ codeOf [] = 0 ∧ burst119.bus.slot ≠ .idle ∧
    [(14 : Byte), 0].length < 1 + paramLength 14 ∧ 1 + paramLength 10 ≤ [(10 : Byte), 4].length ∧
    State.reset.cfg.fallback = true ∧ standstill (full .active) = false ∧
    (∀ c : Fin 24, (byteAt [2, 24] 1).toNat = c.val → fullCfg.channels[c] = none) ∧
    (∀ u : Fin 4, (byteAt [4, 4, 0] 1).toNat = u.val → fullCfg.spectra[u] = none) ∧ 56 < (byteAt [4, 0, 57] 2).toNat ∧
    (byteAt [1, 0, 14] 1 : Byte) = 0 ∧ 13 < (byteAt [1, 0, 14] 2).toNat ∧ 26 < (byteAt [1, 1, 27] 2).toNat ∧
    511 < (byteAt [7, 0, 2] 1).toNat + 256 * (byteAt [7, 0, 2] 2).toNat := by decide +kernel
theorem witness_RequestsRefused_standstill : still.cfg.fallback = false ∧ standstill still = true ∧
    (∀ c : Fin 24, (byteAt [9, 24, 1] 1).toNat = c.val → still.cfg.channels[c] = none) ∧
    (byteAt [9, 2, 0] 1).toNat = (2 : Fin 24).val ∧ still.cfg.channels[2] ≠ none ∧ (byteAt [9, 2, 0] 2 : Byte) = 0 ∧
    4 < (byteAt [9, 2, 5] 2).toNat ∧ (∀ i : Fin 12, (byteAt [10, 12] 1).toNat = i.val → still.cfg.classes[i] = none) ∧
    (byteAt [11, 4, 255, 255, 255, 255] 1).toNat = (4 : Fin 12).val ∧ still.cfg.classes[4] ≠ none ∧
    511 < (byteAt [14, 0, 2, 0, 0, 0, 0] 1).toNat + 256 * (byteAt [14, 0, 2, 0, 0, 0, 0] 2).toNat := by decide +kernel
theorem witness_RequestsRefused_absent (k : Nat) (h : 2 ≤ k) (l : k ≤ 5) :
    byteAt [11, 4, 255, 255, 255, 255] k = 0xFF := by
  obtain ⟨j, rfl⟩ : ∃ j, k = j + 2 := ⟨k - 2, by omega⟩
  exact (by decide : ∀ j : Fin 4, byteAt [11, 4, 255, 255, 255, 255] (j.val + 2) = 0xFF) ⟨j, by omega⟩
/-- R191, Table 12-1: an absent identity and an offset behind block 0. -/
theorem test_requests_refused_standstill :
    after (.setIdentity [4, 255, 255, 255, 255]) still (fun t => decide (t.bus.queue.map (·.data) = [[11, 4]])) = true ∧
    after (.writeConfig [0, 2, 0, 0, 0, 0]) still (fun t => decide (t.bus.queue.map (·.data) = [[14, 3]])) = true := by
  decide +kernel
/-- R190: a unit above 3, a signal above 13 and an unknown selector, each in one page with its result. -/
theorem test_requests_refused :
    after (.readSpectrum [4, 0]) still (fun t => decide (t.bus.queue.map (·.data) = [[4, 3]])) = true ∧
    after (.readSignal [0, 14]) still (fun t => decide (t.bus.queue.map (·.data) = [[1, 3]])) = true ∧
    after (.readSignal [2, 0]) still (fun t => decide (t.bus.queue.map (·.data) = [[1, 4]])) = true := by decide +kernel

end Sys2Proof.Tests
end

/-! PROOFS. Signal capture: the raw field of an entry, joined from the bytes of a frame (R7). -/

namespace Sys2Proof.Machine

/-! ### Bytes by their weights -/

@[simp] theorem byteAt_cons_zero (b : Byte) (r : List Byte) : byteAt (b :: r) 0 = b := rfl

@[simp] theorem byteAt_cons_succ (b : Byte) (r : List Byte) (k : Nat) : byteAt (b :: r) (k + 1) = byteAt r k := rfl

/-- A byte of a window of a list is the byte of the list that far behind the window's start. -/
theorem byteAt_take_drop {bs : List Byte} {a n k : Nat} (h : k < n) :
    byteAt ((bs.drop a).take n) k = byteAt bs (a + k) := by
  simp [byteAt, List.getD_eq_getElem?_getD, List.getElem?_take_of_lt h]

theorem byteAt_reverse {bs : List Byte} {k : Nat} (h : k < bs.length) :
    byteAt bs.reverse k = byteAt bs (bs.length - 1 - k) :=
  congrFun (List.getD_reverse k h) 0

theorem sum_map_range_congr {n : Nat} {f g : Nat → Nat} (h : ∀ k < n, f k = g k) :
    ((List.range n).map f).sum = ((List.range n).map g).sum :=
  congrArg List.sum (List.map_congr_left fun k hk => h k (List.mem_range.mp hk))

/-- Little-endian: byte `k` has the weight `256 ^ k`. -/
theorem leNat_eq_sum (bs : List Byte) :
    leNat bs = ((List.range bs.length).map fun k => (byteAt bs k).toNat * 256 ^ k).sum := by
  induction bs with
  | nil => rfl
  | cons b r ih =>
    have shift : ∀ k, (byteAt r k).toNat * 256 ^ (k + 1) = 256 * ((byteAt r k).toNat * 256 ^ k) := fun k => by ring
    simp [leNat, ih, List.range_succ_eq_map, Function.comp_def, shift, List.sum_map_mul_left]

/-- Big-endian: the byte `k` places before the last has the weight `256 ^ k`. -/
theorem beNat_eq_sum (bs : List Byte) :
    beNat bs = ((List.range bs.length).map fun k => (byteAt bs (bs.length - 1 - k)).toNat * 256 ^ k).sum := by
  rw [beNat, leNat_eq_sum, List.length_reverse]
  exact sum_map_range_congr fun k hk => by rw [byteAt_reverse hk]

/-! ### The raw field -/

/-- The bytes of a window inside a list, joined in either byte order, by their places in the list. -/
theorem join_window_eq_sum {bs : List Byte} {a n : Nat} (big : Bool) (h : a + n ≤ bs.length) :
    (if big then beNat ((bs.drop a).take n) else leNat ((bs.drop a).take n)) =
      ((List.range n).map fun k => (byteAt bs (a + (if big then n - 1 - k else k))).toNat * 256 ^ k).sum := by
  have hlen : ((bs.drop a).take n).length = n := by simp; omega
  cases big with
  | true =>
    rw [if_pos rfl, beNat_eq_sum, hlen]
    exact sum_map_range_congr fun k hk => by rw [byteAt_take_drop (by omega), if_pos rfl]
  | false =>
    rw [if_neg Bool.false_ne_true, leNat_eq_sum, hlen]
    exact sum_map_range_congr fun k hk => by rw [byteAt_take_drop hk, if_neg Bool.false_ne_true]

/-- Settles O29: the field's bytes are a window of the data, joined by their weights; discarding the low-order bits and
taking the next bits is `bitField`. -/
theorem rawFieldJoined : Obligations.RawFieldJoined := by
  intro e data fits
  rw [rawField, join_window_eq_sum e.bigEndian fits, bitField]

end Sys2Proof.Machine

/-! PROOFS. Wear channels and spectrum units: the band lookup (R37). -/

namespace Sys2Proof.Machine

theorem bandOf_cons_of_le {l v : Int} (r : List Int) (h : v ≤ l) : bandOf (l :: r) v = 0 := if_pos h

theorem bandOf_cons_of_lt {l v : Int} (r : List Int) (h : l < v) : bandOf (l :: r) v = bandOf r v + 1 :=
  if_neg (Int.not_le.mpr h)

/-- The lookup is the library's search for the first limit at or above the value, in any list of limits. -/
theorem bandOf_eq_findIdx (limits : List Int) (v : Int) : bandOf limits v = limits.findIdx (v ≤ ·) := by
  induction limits with
  | nil => rfl
  | cons l r ih =>
    rcases le_or_gt v l with hle | hlt
    · simp [bandOf_cons_of_le r hle, List.findIdx_cons, hle]
    · simp [bandOf_cons_of_lt r hlt, List.findIdx_cons, ih, Int.not_le.mpr hlt]

theorem bandOf_le_length (limits : List Int) (v : Int) : bandOf limits v ≤ limits.length :=
  bandOf_eq_findIdx limits v ▸ List.findIdx_le_length

/-- No limit before the band found is at or above the value: the band is the lowest. -/
theorem getElem_lt_of_lt_bandOf {limits : List Int} {v : Int} {i : Nat} (h : i < limits.length)
    (below : i < bandOf limits v) : limits[i] < v := by
  rw [bandOf_eq_findIdx] at below
  simpa using List.not_of_lt_findIdx below

/-- A band found inside the table has its limit at or above the value. -/
theorem le_getElem_bandOf {limits : List Int} {v : Int} (h : bandOf limits v < limits.length) :
    v ≤ limits[bandOf limits v] := by
  simp only [bandOf_eq_findIdx] at h ⊢
  simpa using List.findIdx_getElem (w := h)

/-- Settles O33: the lookup is a first-match search, so it stays within the table's length, passes only limits below the
value and stops at one that is not. -/
theorem bandLookup : Obligations.BandLookup := fun limits v =>
  ⟨bandOf_le_length limits v, fun _ h below => getElem_lt_of_lt_bandOf h below, le_getElem_bandOf⟩

end Sys2Proof.Machine

/-! PROOFS. Wear channels: the estimated hours after a HOURS preset (R70, R71). -/

namespace Sys2Proof.Machine

/-! ### The alignment by the order of hours and estimated hours -/

/-- R71 (1): estimated hours above hours come down to them, and step (2) finds the estimated prescaler at 0. -/
theorem alignEstimated_of_lt {ch : Channel} (h : ch.hours < ch.estHours) :
    alignEstimated ch = { ch with estHours := ch.hours, estPre := 0 } := by
  simp [alignEstimated, h]

/-- R71 (2): at equal hours the hour prescaler bounds the estimated prescaler. -/
theorem alignEstimated_of_eq {ch : Channel} (h : ch.estHours = ch.hours) :
    alignEstimated ch = { ch with estPre := if ch.hourPre < ch.estPre then ch.hourPre else ch.estPre } := by
  by_cases above : ch.hourPre < ch.estPre
  · simp [alignEstimated, h, above]
  · simp [alignEstimated, h.not_gt, above]

/-- R71: hours above the estimated hours leave them and their prescaler alone. -/
theorem alignEstimated_of_gt {ch : Channel} (h : ch.estHours < ch.hours) : alignEstimated ch = ch := by
  simp [alignEstimated, h.ne, h.not_gt]

theorem alignEstimated_keeps_hours (ch : Channel) :
    (alignEstimated ch).hours = ch.hours ∧ (alignEstimated ch).hourPre = ch.hourPre := by
  rcases lt_trichotomy ch.estHours ch.hours with below | equal | above
  · simp [alignEstimated_of_gt below]
  · simp [alignEstimated_of_eq equal]
  · simp [alignEstimated_of_lt above]

/-! ### The HOURS preset -/

/-- R70: the new hours are the preset value and the growth since the staging, held at the maximum; R71 follows. -/
theorem applyPreset_hours {st : Staged} (hq : st.quantity = .hours) (ch : Channel) :
    applyPreset st ch =
      alignEstimated { ch with staged := none, hours := min max32 (st.value + (ch.hours - st.base)) } := by
  simp [applyPreset, hq, quantityOf, satAdd]

/-- Settles O37: a HOURS preset is the alignment of the channel with its new hours, which the three orders of estimated
hours and hours decide. -/
theorem estimatedHoursAligned : Obligations.EstimatedHoursAligned := by
  rintro st ch hq h rfl
  rw [applyPreset_hours hq]
  obtain ⟨hours_kept, hourPre_kept⟩ := alignEstimated_keeps_hours
    { ch with staged := none, hours := min max32 (st.value + (ch.hours - st.base)) }
  refine ⟨hours_kept, hourPre_kept, fun above => ?_, fun equal => ?_, fun below => ?_⟩
  · rw [alignEstimated_of_lt above]
    exact ⟨rfl, rfl⟩
  · rw [alignEstimated_of_eq equal]
    exact ⟨equal, rfl⟩
  · rw [alignEstimated_of_gt below]
    exact ⟨rfl, rfl⟩

end Sys2Proof.Machine
